-- ==== Sys2Proof/Word.lean ====
section
/-! DEFINITION. The two word widths of the block (10_state.md R24, 20_memory.md R60). -/

namespace Sys2Proof

/-- One unit of the buffers `PBUF` and `FBUF` (R60), and the width of the 8-bit registers (R24). -/
abbrev Byte := BitVec 8

/-- One register as the host sees it (R20), a command word (R84), the data of a transaction (R90). -/
abbrev Word := BitVec 16

end Sys2Proof
end

