-- ==== Sys2Proof/Syntax.lean ====
section
/-! DEFINITION. The instructions: the 23 commands of format C (30_encoding.md R85) and the six host
transactions of format H (R91), one constructor for each mnemonic of spec/opcode_table.json. -/

namespace Sys2Proof

/-- The phase `PH` of ATT_INC (R86): 0 = connect, 1 = close. -/
inductive Phase where
  | connect
  | close
  deriving DecidableEq, Repr

/-- Every instruction of the opcode table. LC_SET's two rows are one instruction (R141). -/
inductive Instr where
  -- control commands (45_host_access.md)
  | nop
  -- codec unit (40_codec.md)
  | csumGen
  | verify
  | serialize
  | deserialize
  | encode
  | decode
  | pktClear
  -- control commands
  | errClr
  -- context unit (41_context.md)
  | lcSet (S : BitVec 3)
  | ctxReset
  | seqReset
  | seqInc
  | attClr
  | attInc (PH : Phase)
  -- window unit (42_window.md)
  | winStart
  | winSent
  | winAck
  | winFail
  -- receiver unit (43_receiver.md)
  | rxClassify
  | rxCommit
  -- timer unit (44_timer.md)
  | tmrArm
  | tmrDisarm
  -- host transactions (45_host_access.md)
  | regRd (addr : BitVec 16)
  | regWr (addr data : BitVec 16)
  | pbRd (addr : BitVec 16)
  | pbWr (addr data : BitVec 16)
  | fbRd (addr : BitVec 16)
  | fbWr (addr data : BitVec 16)
  deriving DecidableEq, Repr

end Sys2Proof
end

