-- ==== Sys2Proof/WellFormed.lean ====
section
/-! DEFINITION. Which instructions an encoding stands for (30_encoding.md R86, R87). -/

namespace Sys2Proof

/-- The one operand check of the encodings: LC_SET's `S` is one of the six lifecycle codes 0 to 5, since
6 and 7 are reserved (R86, R87, V4). Every other operand may hold any value of its field. -/
def Instr.wellFormed : Instr → Bool
  | .lcSet S => decide (S.toNat < 6)
  | .nop | .csumGen | .verify | .serialize | .deserialize | .encode | .decode | .pktClear | .errClr => true
  | .ctxReset | .seqReset | .seqInc | .attClr | .attInc _ => true
  | .winStart | .winSent | .winAck | .winFail | .rxClassify | .rxCommit | .tmrArm | .tmrDisarm => true
  | .regRd _ | .regWr _ _ | .pbRd _ | .pbWr _ _ | .fbRd _ | .fbWr _ _ => true

end Sys2Proof
end

