-- ==== Sys2Proof/Decode.lean ====
section
/-! DEFINITION. Decoding and encoding of command words and host transaction words (30_encoding.md §2, §3). -/

namespace Sys2Proof

/-! ## Fields -/

/-- `OP`, bits [7:0] of a command word (R84). -/
def opField (w : BitVec 16) : BitVec 8 := w.extractLsb' 0 8

/-- `ARG`, bits [15:8] of a command word (R84). -/
def argField (w : BitVec 16) : BitVec 8 := w.extractLsb' 8 8

/-- `KIND`, bits [34:32] of a host transaction word (R90). -/
def kindField (w : BitVec 35) : BitVec 3 := w.extractLsb' 32 3

/-- `ADDR`, bits [31:16] of a host transaction word (R90). -/
def addrField (w : BitVec 35) : BitVec 16 := w.extractLsb' 16 16

/-- `DATA`, bits [15:0] of a host transaction word (R90). -/
def dataField (w : BitVec 35) : BitVec 16 := w.extractLsb' 0 16

/-- A command word from its fields (R84). -/
def commandWord (arg op : BitVec 8) : BitVec 16 := arg ++ op

/-- A host transaction word from its fields (R90). -/
def transactionWord (kind : BitVec 3) (addr data : BitVec 16) : BitVec 35 := kind ++ addr ++ data

/-- The phase that `ARG[0]` names (R86). -/
def phaseOfBit (b : BitVec 1) : Phase := if b = 0 then .connect else .close

/-- `ARG[0]` of a phase (R86). -/
def bitOfPhase : Phase → BitVec 1
  | .connect => 0
  | .close => 1

/-! ## Decoding -/

/-- Why a word is no instruction. The block reports every one of these as `ILLEGAL_CMD` (R87, R91). -/
inductive Reject where
  /-- the `OP` of a command word is reserved (R85, R87, V2) -/
  | reservedOpcode
  /-- an `ARG` bit that R86 requires to be 0 is 1 (R87, V3) -/
  | argumentBits
  /-- an LC_SET whose `S` is 6 or 7 (R87, V4) -/
  | reservedLifecycleCode
  /-- a transaction of `KIND` 6 or 7 (R91, R251, V5) -/
  | reservedKind
  /-- a read transaction whose `DATA` is not 0 (R91, V6) -/
  | readWithData
  deriving DecidableEq, Repr

/-- The opcode map of R85, but for the two opcodes with an argument (LC_SET 0x10 and ATT_INC 0x15). -/
def plainCommand (op : BitVec 8) : Option Instr :=
  match op.toNat with
  | 0x00 => some .nop
  | 0x01 => some .csumGen
  | 0x02 => some .verify
  | 0x03 => some .serialize
  | 0x04 => some .deserialize
  | 0x05 => some .encode
  | 0x06 => some .decode
  | 0x07 => some .pktClear
  | 0x08 => some .errClr
  | 0x11 => some .ctxReset
  | 0x12 => some .seqReset
  | 0x13 => some .seqInc
  | 0x14 => some .attClr
  | 0x20 => some .winStart
  | 0x21 => some .winSent
  | 0x22 => some .winAck
  | 0x23 => some .winFail
  | 0x28 => some .rxClassify
  | 0x29 => some .rxCommit
  | 0x30 => some .tmrArm
  | 0x31 => some .tmrDisarm
  | _ => none

/-- The decoding procedure of R88, total on every 16-bit word. -/
def decodeCommand (w : BitVec 16) : Except Reject Instr :=
  let op := opField w
  let arg := argField w
  if op = 0x10 then
    if arg.extractLsb' 3 5 ≠ 0 then .error .argumentBits
    else if 6 ≤ (arg.extractLsb' 0 3).toNat then .error .reservedLifecycleCode
    else .ok (.lcSet (arg.extractLsb' 0 3))
  else if op = 0x15 then
    if arg.extractLsb' 1 7 ≠ 0 then .error .argumentBits
    else .ok (.attInc (phaseOfBit (arg.extractLsb' 0 1)))
  else
    match plainCommand op with
    | some i => if arg ≠ 0 then .error .argumentBits else .ok i
    | none => .error .reservedOpcode

/-- A read transaction's `DATA` must be 0 (R91). -/
def readOf (data : BitVec 16) (i : Instr) : Except Reject Instr :=
  if data ≠ 0 then .error .readWithData else .ok i

/-- The host transaction a 35-bit word stands for (R90, R91), total on every word. -/
def decodeTransaction (w : BitVec 35) : Except Reject Instr :=
  match (kindField w).toNat with
  | 0 => readOf (dataField w) (.regRd (addrField w))
  | 1 => .ok (.regWr (addrField w) (dataField w))
  | 2 => readOf (dataField w) (.pbRd (addrField w))
  | 3 => .ok (.pbWr (addrField w) (dataField w))
  | 4 => readOf (dataField w) (.fbRd (addrField w))
  | 5 => .ok (.fbWr (addrField w) (dataField w))
  | _ => .error .reservedKind

/-- A word of one of the two formats: C, a 16-bit command word (R84), or H, a 35-bit host transaction word
(R90). The format is known from where the word stands, never from its bits. -/
inductive CodeWord where
  | command (w : BitVec 16)
  | transaction (w : BitVec 35)
  deriving DecidableEq, Repr

/-- Decoding of a word of either format. -/
def decode : CodeWord → Except Reject Instr
  | .command w => decodeCommand w
  | .transaction w => decodeTransaction w

/-! ## Encoding -/

/-- The word of an instruction, in its own format (R85, R86, R90, R91). -/
def encode : Instr → CodeWord
  | .nop => .command (commandWord 0 0x00)
  | .csumGen => .command (commandWord 0 0x01)
  | .verify => .command (commandWord 0 0x02)
  | .serialize => .command (commandWord 0 0x03)
  | .deserialize => .command (commandWord 0 0x04)
  | .encode => .command (commandWord 0 0x05)
  | .decode => .command (commandWord 0 0x06)
  | .pktClear => .command (commandWord 0 0x07)
  | .errClr => .command (commandWord 0 0x08)
  | .lcSet S => .command (commandWord ((0 : BitVec 5) ++ S) 0x10)
  | .ctxReset => .command (commandWord 0 0x11)
  | .seqReset => .command (commandWord 0 0x12)
  | .seqInc => .command (commandWord 0 0x13)
  | .attClr => .command (commandWord 0 0x14)
  | .attInc PH => .command (commandWord ((0 : BitVec 7) ++ bitOfPhase PH) 0x15)
  | .winStart => .command (commandWord 0 0x20)
  | .winSent => .command (commandWord 0 0x21)
  | .winAck => .command (commandWord 0 0x22)
  | .winFail => .command (commandWord 0 0x23)
  | .rxClassify => .command (commandWord 0 0x28)
  | .rxCommit => .command (commandWord 0 0x29)
  | .tmrArm => .command (commandWord 0 0x30)
  | .tmrDisarm => .command (commandWord 0 0x31)
  | .regRd addr => .transaction (transactionWord 0 addr 0)
  | .regWr addr data => .transaction (transactionWord 1 addr data)
  | .pbRd addr => .transaction (transactionWord 2 addr 0)
  | .pbWr addr data => .transaction (transactionWord 3 addr data)
  | .fbRd addr => .transaction (transactionWord 4 addr 0)
  | .fbWr addr data => .transaction (transactionWord 5 addr data)

/-- The host transaction by which the host issues a word: a transaction word is itself; a command word is
written to `CMD`, register index 0x01 (R27, R94). -/
def CodeWord.asTransaction : CodeWord → BitVec 35
  | .command w => transactionWord 1 0x0001 w
  | .transaction w => w

/-! ## The opcode table -/

/-- A row of spec/opcode_table.json: `word &&& mask = pattern` holds for exactly its words (R88). -/
structure TableRow (n : Nat) where
  mnemonic : String
  pattern : BitVec n
  mask : BitVec n
  deriving DecidableEq, Repr

/-- Whether a row of the table matches a word (R88). -/
def rowMatches {n : Nat} (w : BitVec n) (r : TableRow n) : Bool := decide (w &&& r.mask = r.pattern)

/-- The 24 format C rows of spec/opcode_table.json. -/
def commandTable : List (TableRow 16) :=
  [⟨"NOP", 0x0000, 0xFFFF⟩, ⟨"CSUM_GEN", 0x0001, 0xFFFF⟩, ⟨"VERIFY", 0x0002, 0xFFFF⟩,
   ⟨"SERIALIZE", 0x0003, 0xFFFF⟩, ⟨"DESERIALIZE", 0x0004, 0xFFFF⟩, ⟨"ENCODE", 0x0005, 0xFFFF⟩,
   ⟨"DECODE", 0x0006, 0xFFFF⟩, ⟨"PKT_CLEAR", 0x0007, 0xFFFF⟩, ⟨"ERR_CLR", 0x0008, 0xFFFF⟩,
   ⟨"LC_SET", 0x0010, 0xFCFF⟩, ⟨"LC_SET", 0x0410, 0xFEFF⟩, ⟨"CTX_RESET", 0x0011, 0xFFFF⟩,
   ⟨"SEQ_RESET", 0x0012, 0xFFFF⟩, ⟨"SEQ_INC", 0x0013, 0xFFFF⟩, ⟨"ATT_CLR", 0x0014, 0xFFFF⟩,
   ⟨"ATT_INC", 0x0015, 0xFEFF⟩, ⟨"WIN_START", 0x0020, 0xFFFF⟩, ⟨"WIN_SENT", 0x0021, 0xFFFF⟩,
   ⟨"WIN_ACK", 0x0022, 0xFFFF⟩, ⟨"WIN_FAIL", 0x0023, 0xFFFF⟩, ⟨"RX_CLASSIFY", 0x0028, 0xFFFF⟩,
   ⟨"RX_COMMIT", 0x0029, 0xFFFF⟩, ⟨"TMR_ARM", 0x0030, 0xFFFF⟩, ⟨"TMR_DISARM", 0x0031, 0xFFFF⟩]

/-- The six format H rows of spec/opcode_table.json. -/
def transactionTable : List (TableRow 35) :=
  [⟨"REG_RD", 0x000000000, 0x70000FFFF⟩, ⟨"REG_WR", 0x100000000, 0x700000000⟩,
   ⟨"PB_RD", 0x200000000, 0x70000FFFF⟩, ⟨"PB_WR", 0x300000000, 0x700000000⟩,
   ⟨"FB_RD", 0x400000000, 0x70000FFFF⟩, ⟨"FB_WR", 0x500000000, 0x700000000⟩]

/-- The mnemonic of an instruction, as the table spells it. -/
def Instr.mnemonic : Instr → String
  | .nop => "NOP"
  | .csumGen => "CSUM_GEN"
  | .verify => "VERIFY"
  | .serialize => "SERIALIZE"
  | .deserialize => "DESERIALIZE"
  | .encode => "ENCODE"
  | .decode => "DECODE"
  | .pktClear => "PKT_CLEAR"
  | .errClr => "ERR_CLR"
  | .lcSet _ => "LC_SET"
  | .ctxReset => "CTX_RESET"
  | .seqReset => "SEQ_RESET"
  | .seqInc => "SEQ_INC"
  | .attClr => "ATT_CLR"
  | .attInc _ => "ATT_INC"
  | .winStart => "WIN_START"
  | .winSent => "WIN_SENT"
  | .winAck => "WIN_ACK"
  | .winFail => "WIN_FAIL"
  | .rxClassify => "RX_CLASSIFY"
  | .rxCommit => "RX_COMMIT"
  | .tmrArm => "TMR_ARM"
  | .tmrDisarm => "TMR_DISARM"
  | .regRd _ => "REG_RD"
  | .regWr _ _ => "REG_WR"
  | .pbRd _ => "PB_RD"
  | .pbWr _ _ => "PB_WR"
  | .fbRd _ => "FB_RD"
  | .fbWr _ _ => "FB_WR"

/-- The mnemonics of the table's rows that match a word. -/
def matchingRows : CodeWord → List String
  | .command w => (commandTable.filter (rowMatches w)).map TableRow.mnemonic
  | .transaction w => (transactionTable.filter (rowMatches w)).map TableRow.mnemonic

/-! ## The host's two questions -/

/-- The word of the table's numbering: 16 bits are a command word, more are a host transaction word (its 35
bits fill five bytes; log entry 13). `none` where bits above the format's width are set. -/
def tableCodeWord (nbits w : Nat) : Option CodeWord :=
  if nbits ≤ 16 then
    if w < 2 ^ 16 then some (.command (BitVec.ofNat 16 w)) else none
  else
    if w < 2 ^ 35 then some (.transaction (BitVec.ofNat 35 w)) else none

/-- The instruction the decoder reads from a table word. -/
def decodeTableWord (nbits w : Nat) : Option Instr :=
  match tableCodeWord nbits w with
  | some c =>
    match decode c with
    | .ok i => some i
    | .error _ => none
  | none => none

/-- The host transaction that issues a table word; a word wider than its format keeps its low bits. -/
def tableTransaction (nbits w : Nat) : BitVec 35 :=
  if nbits ≤ 16 then (CodeWord.command (BitVec.ofNat 16 w)).asTransaction else BitVec.ofNat 35 w

end Sys2Proof
end

