-- ==== Sys2Proof/Machine/Checksum.lean ====
section
/-! DEFINITION. The checksum function (40_codec.md R100, R101). -/

namespace Sys2Proof.Machine

/-- The padded payload (R101): byte `i` of `buf` for i < n, and 0x00 for n ≤ i < P. -/
def padded (P : Nat) (buf : Nat → Byte) (n : Nat) : List Byte :=
  (List.range P).map (fun i => if i < n then buf i else 0x00)

/-- Byte pairs as words, the lower-addressed byte in bits [15:8] (R63, R100). A last byte without a partner
is paired with the one zero byte R100 appends when P is odd. -/
def packWords : List Byte → List Word
  | [] => []
  | [a] => [a ++ (0x00 : Byte)]
  | a :: b :: rest => (a ++ b) :: packWords rest

/-- One step of the sum (R100): add into the 17-bit accumulator, then add its bit 16 back in. -/
def addEndAround (acc w : Word) : Word :=
  let sum := acc.toNat + w.toNat
  BitVec.ofNat 16 (sum % 65536 + sum / 65536)

/-- The ones'-complement sum of a list of words (R100). -/
def onesSum (ws : List Word) : Word := ws.foldl addEndAround 0

/-- The words the checksum covers: the header word {type, seq}, then the padded payload (R100). The checksum
field adds nothing. -/
def checksumWords (P : Nat) (t s : Byte) (buf : Nat → Byte) (n : Nat) : List Word :=
  (t ++ s) :: packWords (padded P buf n)

/-- `checksum(t, s, buf, n)` (R100, log entry 11), for n ≤ P. -/
def checksum (P : Nat) (t s : Byte) (buf : Nat → Byte) (n : Nat) : Word :=
  ~~~ onesSum (checksumWords P t s buf n)

end Sys2Proof.Machine
end

