-- ==== Sys2Proof/Config.lean ====
section
/-! DEFINITION. What an implementation fixes (the parameters P and T0, R9) and the free values (the
buffers' contents after a reset, R40, R41, U1, U2). -/

namespace Sys2Proof.Config

/-- The parameters of the model (R9), fixed for a run: no step writes them (log entry 1). -/
structure Params where
  /-- `P`, the payload capacity in bytes. -/
  P : Nat
  /-- `T0`, the reset value of `TMR_RELOAD`, in ticks; 16 bits wide, so 0 ≤ T0 ≤ 65535 always holds. -/
  T0 : Word
  deriving DecidableEq, Repr

/-- The legal range of `P` (R9): 1 ≤ P ≤ 65531, which keeps 4 + P within the 16-bit `FLEN`. -/
abbrev Params.legal (p : Params) : Prop := 1 ≤ p.P ∧ p.P ≤ 65531

/-- DESIGN CHOICE (unsafe, log entry 2): the parameters of `State.reset`. The spec leaves both open (D6,
D34). P = 8 is the value its test vectors use (95_test_vectors.md §0); T0 = 0 is the zero default. -/
def resetParams : Params := { P := 8, T0 := 0 }

/-- FREE VALUE (log entry 3): byte `i` of `PBUF` as the `k`-th reset left it, while nothing has written
it since (R40, U1: any value per byte). -/
opaque pbufAfterReset : (k i : Nat) → Byte

/-- FREE VALUE (log entry 3): byte `i` of `FBUF` as the `k`-th reset left it, while nothing has written
it since (R41, U2: any value per byte). -/
opaque fbufAfterReset : (k i : Nat) → Byte

end Sys2Proof.Config
end

