-- ==== Sys2Proof/Machine/State.lean ====
section
/-! DEFINITION. The state of the block as plain data (10_state.md R20, R59), its inputs, the two reasons a
step could stop for, and the state right after reset (70_reset_and_hazards.md R291). -/

namespace Sys2Proof.Machine

/-- Lifecycle states (R30). The codes 6 and 7 are never held, so they are no constructor. -/
inductive Lifecycle where
  | closed
  | synSent
  | synRcvd
  | established
  | finSent
  | finRcvd
  deriving DecidableEq, Repr

/-- The error codes of `ERRCODE` (R260): `none` is code 0, the others 1 to 11 in order. The codes 12 to 15
are never reported (V10), so they are no constructor. -/
inductive ErrCode where
  | none
  | illegalCmd
  | framing
  | oversize
  | notEstablished
  | badTransition
  | winInactive
  | noSendSlot
  | badCount
  | noPending
  | badReg
  | badAddr
  deriving DecidableEq, Repr

/-- The receiver's classification codes (R42), 0 to 7 in order. -/
inductive RxAction where
  | none
  | accept
  | stale
  | nackCsum
  | nackGap
  | syn
  | fin
  | proto
  deriving DecidableEq, Repr

/-- A buffer's contents: (index, byte) cells. An index no cell names has not been written since the last
reset; it has no value here, and a read of it gives a free value (Machine/Ops.lean, log entry 3). -/
abbrev Memory := List Host.Cell

/-- The canonical form of a buffer: indices strictly rising. An unlisted index has no value, so no cell can
equal what an unlisted index reads as, and equal buffers are equal lists. -/
abbrev Memory.wf (m : Memory) : Prop := m.Pairwise (fun x y => x.1 < y.1)

/-- What an agent of R6 does next: one step each (R8). -/
inductive Input where
  /-- the host issues a host transaction word (R90) -/
  | transaction (w : BitVec 35)
  /-- the tick source steps (R224) -/
  | tick
  /-- the reset input is applied (R290) -/
  | reset
  deriving DecidableEq, Repr

/-- The state of the block: the stored values of R59, the parameters of R9, and three fields of the model's
own. Derived registers and status bits (R23) are no fields. -/
structure State where
  -- parameters (R9); no step writes them
  params : Config.Params
  -- stored STATUS bits (R28)
  vok : Bool
  err : Bool
  tmrRun : Bool
  tmrExp : Bool
  winActive : Bool
  winDone : Bool
  winFailed : Bool
  attExh : Bool
  rxPend : Bool
  -- error and interrupt-enable registers (R31, R32)
  errcode : ErrCode
  ien : BitVec 3
  -- packet register set (R33); PBUF stands below
  pktType : Byte
  pktSeq : Byte
  pktCsum : Word
  pktPlen : Word
  -- codec results (R35, R36)
  csumCalc : Word
  flen : Word
  -- connection context (R37, R38, R39)
  lcState : Lifecycle
  expSeq : Byte
  attCnt : Byte
  -- limits (R34)
  limConnect : Byte
  limClose : Byte
  limData : Byte
  -- receiver verdict (R42, R43)
  rxAction : RxAction
  rxAckType : Byte
  rxAckSeq : Byte
  -- window (R50 to R54)
  winN : BitVec 9
  winBase : BitVec 9
  winCursor : BitVec 9
  winWs : BitVec 2
  winFailcnt : Byte
  winAnchor : Byte
  -- timer (R56)
  tmrReload : Word
  tmrCnt : Word
  -- buffers (R40, R41)
  pbuf : Memory
  fbuf : Memory
  -- the model's own (log entry 3): how many reset steps there were, which picks the free values of the buffers
  resets : Nat
  -- the model's own (log entry 5): the data the last host transaction returned, if it returned any
  reply : Option Word
  -- the model's own (log entry 4): what the agents do from here on, in order (R8)
  inputs : List Input
  deriving DecidableEq, Repr

/-- No step of the block stops: what the spec calls an error is a report in `STATUS.ERR` and `ERRCODE` after
which the block goes on (R262, R263), and it has no traps (R273). So there is no constructor (DEDUCED, log
entry 9). -/
inductive Fault where
  deriving DecidableEq, Repr

/-- Why the model would refuse to step. No arm of `exec` answers with it: every instruction has its meaning. -/
inductive Refusal where
  /-- the instruction has no meaning in the model yet; raised by `exec` alone; safe, since it stops -/
  | notModelled (mnemonic : String)
  deriving DecidableEq, Repr

/-- The state right after a reset, for any parameters (R291). The buffers list nothing: their contents are
unspecified (R290). -/
def State.init (p : Config.Params) : State where
  params := p
  vok := false
  err := false
  tmrRun := false
  tmrExp := false
  winActive := false
  winDone := false
  winFailed := false
  attExh := false
  rxPend := false
  errcode := .none
  ien := 0
  pktType := 0x00
  pktSeq := 0x00
  pktCsum := 0x0000
  pktPlen := 0x0000
  csumCalc := 0x0000
  flen := 0x0000
  lcState := .closed
  expSeq := 0x00
  attCnt := 0x00
  limConnect := 10
  limClose := 10
  limData := 10
  rxAction := .none
  rxAckType := 0xFF
  rxAckSeq := 0x00
  winN := 0
  winBase := 0
  winCursor := 0
  winWs := 1
  winFailcnt := 0
  winAnchor := 0x00
  tmrReload := p.T0
  tmrCnt := 0
  pbuf := []
  fbuf := []
  resets := 0
  reply := none
  inputs := []

/-- The machine right after reset (R291), at the parameters of `Config.resetParams` (log entry 2), with no
input waiting: the block waits for its first transaction (R293). -/
def State.reset : State := State.init Config.resetParams

end Sys2Proof.Machine
end

