-- ==== Sys2Proof/Machine/Ops.lean ====
section
/-! DEFINITION. The named operations over the buffers and the registers: reading and writing a buffer,
reporting an error (60_exceptions.md R262), the counters, and the packet's checksum and its verification
(40_codec.md R104). -/

namespace Sys2Proof.Machine

/-! ## Buffers -/

/-- The byte a buffer holds at an index, if anything wrote it since the last reset. -/
def Memory.get? : Memory → Nat → Option Byte
  | [], _ => none
  | (k, b) :: rest, i => if k = i then some b else Memory.get? rest i

/-- The cells of a byte string laid from index `i` up. -/
def Memory.cellsFrom (i : Nat) : List Byte → Memory
  | [] => []
  | b :: rest => (i, b) :: Memory.cellsFrom (i + 1) rest

/-- Store a byte string from index `i` up; every other index keeps what it has. -/
def Memory.store (m : Memory) (i : Nat) (bytes : List Byte) : Memory :=
  m.filter (fun c => decide (c.1 < i)) ++ Memory.cellsFrom i bytes
    ++ m.filter (fun c => decide (i + bytes.length ≤ c.1))

/-- Every cell of the buffer lies below an index. -/
abbrev Memory.below (m : Memory) (n : Nat) : Prop := ∀ c ∈ m, c.1 < n

/-- `PBUF[i]` (R13). What nothing has written since the last reset is a free value (R40, U1). -/
def State.pbufByte (s : State) (i : Nat) : Byte := (s.pbuf.get? i).getD (Config.pbufAfterReset s.resets i)

/-- `FBUF[i]` (R13). What nothing has written since the last reset is a free value (R41, U2). -/
def State.fbufByte (s : State) (i : Nat) : Byte := (s.fbuf.get? i).getD (Config.fbufAfterReset s.resets i)

/-! ## Error reports -/

/-- `raise Error(code)` (R262): the first error since the last ERR_CLR is kept, and nothing else changes
(R263). This is the block's only exception, and there is no return from it (R273, R274). -/
def raiseError (code : ErrCode) (s : State) : State :=
  { s with err := true, errcode := if s.err then s.errcode else code }

/-- A transaction that ends with an error report (R262). -/
def refuseWith (code : ErrCode) (s : State) : Host.Outcome State Fault Refusal := .next (raiseError code s)

/-- A read transaction that ends with an error report: it returns 0 (R61, R262). -/
def refuseRead (code : ErrCode) (s : State) : Host.Outcome State Fault Refusal :=
  .next { raiseError code s with reply := some 0 }

/-- A read transaction's answer (R245, R247, R249). -/
def answer (v : Word) (s : State) : Host.Outcome State Fault Refusal := .next { s with reply := some v }

/-! ## Counters -/

/-- `min(x + 1, 255)`: the saturating 8-bit counters (R150, R173). -/
def saturatingInc (x : Byte) : Byte := BitVec.ofNat 8 (min (x.toNat + 1) 255)

/-! ## The packet register set -/

/-- `PKT_PLEN` > P: the packet register set holds no packet a command can use (R33). -/
def State.payloadTooLong (s : State) : Bool := decide (s.params.P < s.pktPlen.toNat)

/-- The checksum of the packet register set (R100, R104). -/
def State.packetChecksum (s : State) : Word :=
  checksum s.params.P s.pktType s.pktSeq s.pbufByte s.pktPlen.toNat

/-- The predicate `verify()` (R104). -/
def State.verifies (s : State) : Bool := !s.payloadTooLong && decide (s.pktCsum = s.packetChecksum)

/-- `verify_step()` (R104): record the computed checksum, and in VOK whether the packet's own equals it. The
callers check `PKT_PLEN` ≤ P first. -/
def verifyStep (s : State) : State :=
  { s with csumCalc := s.packetChecksum, vok := decide (s.pktCsum = s.packetChecksum) }

end Sys2Proof.Machine
end

