-- ==== Sys2Proof/Machine/Codec.lean ====
section
/-! DEFINITION. The codec unit (40_codec.md): CSUM_GEN, VERIFY, SERIALIZE, DESERIALIZE, ENCODE, DECODE and
PKT_CLEAR. -/

namespace Sys2Proof.Machine

/-- The body of CSUM_GEN after its check (R105). -/
def csumGenBody (s : State) : State :=
  { s with pktCsum := s.packetChecksum, csumCalc := s.packetChecksum, vok := true }

/-- What SERIALIZE writes to FBUF, from index 0 up (R110): the header, the payload bytes 0 to n − 1, and
zeros up to the last byte of the buffer. -/
def State.frameImage (s : State) : List Byte :=
  [s.pktType, s.pktSeq, s.pktCsum.extractLsb' 8 8, s.pktCsum.extractLsb' 0 8]
    ++ (List.range s.pktPlen.toNat).map s.pbufByte
    ++ List.replicate (s.params.P - s.pktPlen.toNat) 0x00

/-- The body of SERIALIZE after its check (R110). -/
def serializeBody (s : State) : State :=
  { s with fbuf := s.fbuf.store 0 s.frameImage, flen := BitVec.ofNat 16 (4 + s.pktPlen.toNat) }

/-- What DESERIALIZE writes to PBUF, from index 0 up (R112): the frame's payload bytes, and zeros up to the
last byte of the buffer. -/
def State.payloadImage (s : State) : List Byte :=
  (List.range (s.flen.toNat - 4)).map (fun i => s.fbufByte (4 + i))
    ++ List.replicate (s.params.P - (s.flen.toNat - 4)) 0x00

/-- The body of DESERIALIZE after its checks (R112). -/
def deserializeBody (s : State) : State :=
  { s with
    pktType := s.fbufByte 0
    pktSeq := s.fbufByte 1
    pktCsum := s.fbufByte 2 ++ s.fbufByte 3
    pktPlen := BitVec.ofNat 16 (s.flen.toNat - 4)
    pbuf := s.pbuf.store 0 s.payloadImage
    vok := false }

/-- CSUM_GEN (R105). -/
def execCsumGen (s : State) : Host.Outcome State Fault Refusal :=
  if s.payloadTooLong then refuseWith .oversize s else .next (csumGenBody s)

/-- VERIFY (R107). -/
def execVerify (s : State) : Host.Outcome State Fault Refusal :=
  if s.payloadTooLong then refuseWith .oversize s else .next (verifyStep s)

/-- SERIALIZE (R110): the frame carries `PKT_CSUM` as it stands. -/
def execSerialize (s : State) : Host.Outcome State Fault Refusal :=
  if s.payloadTooLong then refuseWith .oversize s else .next (serializeBody s)

/-- DESERIALIZE (R112): FRAMING is checked before OVERSIZE. -/
def execDeserialize (s : State) : Host.Outcome State Fault Refusal :=
  if s.flen.toNat < 4 then refuseWith .framing s
  else if s.params.P + 4 < s.flen.toNat then refuseWith .oversize s
  else .next (deserializeBody s)

/-- ENCODE (R115): CSUM_GEN, then SERIALIZE, as one step. -/
def execEncode (s : State) : Host.Outcome State Fault Refusal :=
  if s.payloadTooLong then refuseWith .oversize s else .next (serializeBody (csumGenBody s))

/-- DECODE (R117): DESERIALIZE, then the verification, as one step. -/
def execDecode (s : State) : Host.Outcome State Fault Refusal :=
  if s.flen.toNat < 4 then refuseWith .framing s
  else if s.params.P + 4 < s.flen.toNat then refuseWith .oversize s
  else .next (verifyStep (deserializeBody s))

/-- PKT_CLEAR (R119). -/
def execPktClear (s : State) : Host.Outcome State Fault Refusal :=
  .next { s with
    pktType := 0x00
    pktSeq := 0x00
    pktCsum := 0x0000
    pktPlen := 0
    pbuf := s.pbuf.store 0 (List.replicate s.params.P 0x00)
    vok := false }

end Sys2Proof.Machine
end

