-- ==== Sys2Proof/Machine/Flags.lean ====
section
/-! DEFINITION. The derived fields (10_state.md R23): `WIN_TOP`, `WIN_NEXTSEQ`, the derived bits of `STATUS`,
the status word and the interrupt line. -/

namespace Sys2Proof.Machine

/-- A bit as a number. -/
def bit (b : Bool) : Nat := if b then 1 else 0

/-- `seqw(i)`: the sequence number of relative chunk `i` (R15, R170). -/
def State.seqw (s : State) (i : Nat) : Byte := s.winAnchor + BitVec.ofNat 8 i

/-- `WIN_TOP`: the last relative chunk index in the window (R51; in natural numbers, log entry 6). -/
def State.winTop (s : State) : Nat :=
  if s.winN.toNat = 0 then 0
  else min (s.winBase.toNat + s.winWs.toNat - 1) (s.winN.toNat - 1)

/-- `WIN_NEXTSEQ`: the sequence number of the chunk at the cursor (R55). -/
def State.winNextSeq (s : State) : Byte := s.seqw s.winCursor.toNat

/-- `STATUS.WIN_CAN_SEND` (R29). -/
def State.winCanSend (s : State) : Bool := s.winActive && decide (s.winCursor.toNat ≤ s.winTop)

/-- `STATUS.TYPE_VALID` (R29). -/
def State.typeValid (s : State) : Bool := decide (s.pktType.toNat ≤ 0x05)

/-- `STATUS.IRQ` and the interrupt line `IRQ` (R29, R270): `IEN` bit 0 enables the timer source, bit 1 the
error source, bit 2 the window source (R32). -/
def State.irq (s : State) : Bool :=
  (s.ien.getLsbD 0 && s.tmrExp) || (s.ien.getLsbD 1 && s.err)
    || (s.ien.getLsbD 2 && (s.winDone || s.winFailed))

/-- `STATUS` as a word (R28): bits [15:12] read 0. -/
def State.statusWord (s : State) : Word :=
  BitVec.ofNat 16
    (bit s.vok + 2 * bit s.err + 4 * bit s.tmrRun + 8 * bit s.tmrExp
      + 16 * bit s.winActive + 32 * bit s.winDone + 64 * bit s.winFailed + 128 * bit s.winCanSend
      + 256 * bit s.attExh + 512 * bit s.rxPend + 1024 * bit s.typeValid + 2048 * bit s.irq)

end Sys2Proof.Machine
end

