-- ==== Sys2Proof/Machine/Operands.lean ====
section
/-! DEFINITION. The operands: the register map (10_state.md R24), reading and writing a register, the codes of
the lifecycle states, errors and classifications, and the packet type codes (30_encoding.md R81). -/

namespace Sys2Proof.Machine

/-! ## Codes -/

/-- The packet type codes (R81). -/
def typeSYN : Byte := 0x00
def typeSYNACK : Byte := 0x01
def typeDATA : Byte := 0x02
def typeDATAACK : Byte := 0x03
def typeFIN : Byte := 0x04
def typeFINACK : Byte := 0x05

/-- `RX_ACKTYPE` when no response is due (R43). -/
def noResponse : Byte := 0xFF

/-- The code of a lifecycle state (R30). -/
def lifecycleCode : Lifecycle → Nat
  | .closed => 0
  | .synSent => 1
  | .synRcvd => 2
  | .established => 3
  | .finSent => 4
  | .finRcvd => 5

/-- The lifecycle state a code names; 6 and 7 are reserved (R30). -/
def lifecycleOfCode (c : BitVec 3) : Option Lifecycle :=
  match c.toNat with
  | 0 => some .closed
  | 1 => some .synSent
  | 2 => some .synRcvd
  | 3 => some .established
  | 4 => some .finSent
  | 5 => some .finRcvd
  | _ => none

/-- The code of an error (R260). -/
def errorCode : ErrCode → Nat
  | .none => 0
  | .illegalCmd => 1
  | .framing => 2
  | .oversize => 3
  | .notEstablished => 4
  | .badTransition => 5
  | .winInactive => 6
  | .noSendSlot => 7
  | .badCount => 8
  | .noPending => 9
  | .badReg => 10
  | .badAddr => 11

/-- The code of a receiver classification (R42). -/
def rxActionCode : RxAction → Nat
  | .none => 0
  | .accept => 1
  | .stale => 2
  | .nackCsum => 3
  | .nackGap => 4
  | .syn => 5
  | .fin => 6
  | .proto => 7

/-! ## The register map -/

/-- The registers of R24. -/
inductive Reg where
  | paramP | cmd | status | errcode | ien
  | pktType | pktSeq | pktCsum | pktPlen | csumCalc | flen
  | lcState | expSeq | attCnt | limConnect | limClose | limData
  | rxAction | rxAckType | rxAckSeq
  | winN | winBase | winTop | winCursor | winWs | winFailcnt | winAnchor | winNextSeq
  | tmrReload | tmrCnt
  deriving DecidableEq, Repr

/-- How the host may access a register (R24). -/
inductive Access where
  | readOnly
  | readWrite
  | writeOnly
  deriving DecidableEq, Repr

/-- The register at an index of the 6-bit index space; `none` is a reserved index (R24, R25). -/
def regOfIndex (i : BitVec 6) : Option Reg :=
  match i.toNat with
  | 0x00 => some .paramP
  | 0x01 => some .cmd
  | 0x02 => some .status
  | 0x03 => some .errcode
  | 0x04 => some .ien
  | 0x08 => some .pktType
  | 0x09 => some .pktSeq
  | 0x0A => some .pktCsum
  | 0x0B => some .pktPlen
  | 0x0C => some .csumCalc
  | 0x0D => some .flen
  | 0x10 => some .lcState
  | 0x11 => some .expSeq
  | 0x12 => some .attCnt
  | 0x13 => some .limConnect
  | 0x14 => some .limClose
  | 0x15 => some .limData
  | 0x18 => some .rxAction
  | 0x19 => some .rxAckType
  | 0x1A => some .rxAckSeq
  | 0x20 => some .winN
  | 0x21 => some .winBase
  | 0x22 => some .winTop
  | 0x23 => some .winCursor
  | 0x24 => some .winWs
  | 0x25 => some .winFailcnt
  | 0x26 => some .winAnchor
  | 0x27 => some .winNextSeq
  | 0x28 => some .tmrReload
  | 0x29 => some .tmrCnt
  | _ => none

/-- The register a `REG` address names: ADDR[15:6] must be 0 and the index implemented (R61, R92). -/
def regOfAddress (a : BitVec 16) : Option Reg :=
  if a.extractLsb' 6 10 ≠ 0 then none else regOfIndex (a.extractLsb' 0 6)

/-- The access column of R24. -/
def regAccess : Reg → Access
  | .cmd => .writeOnly
  | .ien | .pktType | .pktSeq | .pktCsum | .pktPlen | .flen => .readWrite
  | .limConnect | .limClose | .limData | .winN | .tmrReload => .readWrite
  | .paramP | .status | .errcode | .csumCalc | .lcState | .expSeq | .attCnt => .readOnly
  | .rxAction | .rxAckType | .rxAckSeq => .readOnly
  | .winBase | .winTop | .winCursor | .winWs | .winFailcnt | .winAnchor | .winNextSeq | .tmrCnt => .readOnly

/-- The registers of the packet register set, whose writes clear VOK (R103). -/
def inPacketSet : Reg → Bool
  | .pktType | .pktSeq | .pktCsum | .pktPlen => true
  | .paramP | .cmd | .status | .errcode | .ien | .csumCalc | .flen => false
  | .lcState | .expSeq | .attCnt | .limConnect | .limClose | .limData => false
  | .rxAction | .rxAckType | .rxAckSeq => false
  | .winN | .winBase | .winTop | .winCursor | .winWs | .winFailcnt | .winAnchor | .winNextSeq => false
  | .tmrReload | .tmrCnt => false

/-- `zext_16(R[r])`: what the host reads in a register, derived fields computed now (R23, R67, R245). Bits
outside the implemented field read 0 (R24, V9); the write-only `CMD` reads 0 (R27). -/
def readReg (s : State) : Reg → Word
  | .paramP => BitVec.ofNat 16 s.params.P
  | .cmd => 0
  | .status => s.statusWord
  | .errcode => BitVec.ofNat 16 (errorCode s.errcode)
  | .ien => s.ien.setWidth 16
  | .pktType => s.pktType.setWidth 16
  | .pktSeq => s.pktSeq.setWidth 16
  | .pktCsum => s.pktCsum
  | .pktPlen => s.pktPlen
  | .csumCalc => s.csumCalc
  | .flen => s.flen
  | .lcState => BitVec.ofNat 16 (lifecycleCode s.lcState)
  | .expSeq => s.expSeq.setWidth 16
  | .attCnt => s.attCnt.setWidth 16
  | .limConnect => s.limConnect.setWidth 16
  | .limClose => s.limClose.setWidth 16
  | .limData => s.limData.setWidth 16
  | .rxAction => BitVec.ofNat 16 (rxActionCode s.rxAction)
  | .rxAckType => s.rxAckType.setWidth 16
  | .rxAckSeq => s.rxAckSeq.setWidth 16
  | .winN => s.winN.setWidth 16
  | .winBase => s.winBase.setWidth 16
  | .winTop => BitVec.ofNat 16 s.winTop
  | .winCursor => s.winCursor.setWidth 16
  | .winWs => s.winWs.setWidth 16
  | .winFailcnt => s.winFailcnt.setWidth 16
  | .winAnchor => s.winAnchor.setWidth 16
  | .winNextSeq => s.winNextSeq.setWidth 16
  | .tmrReload => s.tmrReload
  | .tmrCnt => s.tmrCnt

/-- `R[r] <- v & implemented_mask(r)` for the registers the host may write (R246); the others are refused
before this is reached, and keep their value here. -/
def writeReg (s : State) (v : Word) : Reg → State
  | .ien => { s with ien := v.extractLsb' 0 3 }
  | .pktType => { s with pktType := v.extractLsb' 0 8 }
  | .pktSeq => { s with pktSeq := v.extractLsb' 0 8 }
  | .pktCsum => { s with pktCsum := v }
  | .pktPlen => { s with pktPlen := v }
  | .flen => { s with flen := v }
  | .limConnect => { s with limConnect := v.extractLsb' 0 8 }
  | .limClose => { s with limClose := v.extractLsb' 0 8 }
  | .limData => { s with limData := v.extractLsb' 0 8 }
  | .winN => { s with winN := v.extractLsb' 0 9 }
  | .tmrReload => { s with tmrReload := v }
  | .paramP | .cmd | .status | .errcode | .csumCalc | .lcState | .expSeq | .attCnt => s
  | .rxAction | .rxAckType | .rxAckSeq => s
  | .winBase | .winTop | .winCursor | .winWs | .winFailcnt | .winAnchor | .winNextSeq | .tmrCnt => s

/-- The limit register of a phase (R86, R150). -/
def State.phaseLimit (s : State) : Phase → Byte
  | .connect => s.limConnect
  | .close => s.limClose

end Sys2Proof.Machine
end

