-- ==== Sys2Proof/Machine/Context.lean ====
section
/-! DEFINITION. The context unit (41_context.md): LC_SET, CTX_RESET, SEQ_RESET, SEQ_INC, ATT_CLR and
ATT_INC. -/

namespace Sys2Proof.Machine

/-- The rows of R140's table of legal transitions. -/
def legalTransitions : List (Lifecycle × Lifecycle) :=
  [(.closed, .synSent), (.synSent, .established), (.synSent, .closed), (.closed, .synRcvd),
   (.synRcvd, .established), (.established, .finSent), (.finSent, .closed), (.finSent, .established),
   (.established, .finRcvd), (.finRcvd, .closed)]

/-- A legal lifecycle transition: a row of R140, or no change of state. -/
def legalTransition (cur S : Lifecycle) : Bool := decide (S = cur) || decide ((cur, S) ∈ legalTransitions)

/-- The state after a legal LC_SET: entering ESTABLISHED from SYN_SENT or SYN_RCVD resets `EXP_SEQ` (R141,
R142). -/
def enterLifecycle (S : Lifecycle) (s : State) : State :=
  { s with
    expSeq := if S = .established ∧ (s.lcState = .synSent ∨ s.lcState = .synRcvd) then 0x00 else s.expSeq
    lcState := S }

/-- LC_SET (R141). A reserved code is an illegal command (R87); no legal word carries one (log entry
12). -/
def execLcSet (S : BitVec 3) (s : State) : Host.Outcome State Fault Refusal :=
  match lifecycleOfCode S with
  | none => refuseWith .illegalCmd s
  | some target =>
    if legalTransition s.lcState target then .next (enterLifecycle target s)
    else refuseWith .badTransition s

/-- CTX_RESET (R144): a fresh connection context. The packet register set, the buffers, the error report,
`IEN`, the limits and `TMR_RELOAD` are not connection state and stay. -/
def execCtxReset (s : State) : Host.Outcome State Fault Refusal :=
  .next { s with
    lcState := .closed
    expSeq := 0x00
    attCnt := 0
    attExh := false
    winN := 0
    winBase := 0
    winCursor := 0
    winWs := 1
    winFailcnt := 0
    winAnchor := 0x00
    winActive := false
    winDone := false
    winFailed := false
    rxAction := .none
    rxAckType := 0xFF
    rxAckSeq := 0x00
    rxPend := false
    tmrCnt := 0
    tmrRun := false
    tmrExp := false }

/-- SEQ_RESET (R146). -/
def execSeqReset (s : State) : Host.Outcome State Fault Refusal := .next { s with expSeq := 0x00 }

/-- SEQ_INC (R147): modulo 256 (R148). -/
def execSeqInc (s : State) : Host.Outcome State Fault Refusal := .next { s with expSeq := s.expSeq + 1 }

/-- ATT_CLR (R149). -/
def execAttClr (s : State) : Host.Outcome State Fault Refusal := .next { s with attCnt := 0, attExh := false }

/-- ATT_INC (R150): the new count is compared with the limit of the phase given. -/
def execAttInc (PH : Phase) (s : State) : Host.Outcome State Fault Refusal :=
  .next { s with
    attCnt := saturatingInc s.attCnt
    attExh := decide ((s.phaseLimit PH).toNat ≤ (saturatingInc s.attCnt).toNat) }

end Sys2Proof.Machine
end

