-- ==== Sys2Proof/Machine/Control.lean ====
section
/-! DEFINITION. The control commands NOP and ERR_CLR (45_host_access.md §1). -/

namespace Sys2Proof.Machine

/-- NOP (R240): no effect. -/
def execNop (s : State) : Host.Outcome State Fault Refusal := .next s

/-- ERR_CLR (R241): the only way, other than reset, to clear an error report. -/
def execErrClr (s : State) : Host.Outcome State Fault Refusal :=
  .next { s with err := false, errcode := .none }

end Sys2Proof.Machine
end

