-- ==== Sys2Proof/Machine/Receiver.lean ====
section
/-! DEFINITION. The receiver classifier (43_receiver.md): RX_CLASSIFY and RX_COMMIT. -/

namespace Sys2Proof.Machine

/-- A classification and the response it names (R42, R43). -/
structure Verdict where
  action : RxAction
  ackType : Byte
  ackSeq : Byte
  deriving DecidableEq, Repr

/-- The verdict on a packet of type `t` and sequence number `q` against the expected sequence number `e`, when
its verification gave `ok` (R200, R201). -/
def verdictOf (ok : Bool) (t q e : Byte) : Verdict :=
  if ¬ ok then ⟨.nackCsum, typeDATAACK, e - 1⟩
  else if t = typeDATA then
    if (q - e).toNat = 0 then ⟨.accept, typeDATAACK, e⟩
    else if 128 ≤ (q - e).toNat then ⟨.stale, typeDATAACK, q⟩
    else ⟨.nackGap, typeDATAACK, e - 1⟩
  else if t = typeSYN then ⟨.syn, typeSYNACK, 0x00⟩
  else if t = typeFIN then ⟨.fin, noResponse, 0x00⟩
  else ⟨.proto, noResponse, 0x00⟩

/-- Record a verdict and mark it pending (R201); one that was not committed is overwritten (D47). -/
def recordVerdict (v : Verdict) (s : State) : State :=
  { s with rxAction := v.action, rxAckType := v.ackType, rxAckSeq := v.ackSeq, rxPend := true }

/-- The verdict on the packet register set, VOK having just been set by the verification (R201). -/
def State.verdict (s : State) : Verdict := verdictOf s.vok s.pktType s.pktSeq s.expSeq

/-- Verify, then classify and record (R201). -/
def classify (s : State) : State := recordVerdict (verifyStep s).verdict (verifyStep s)

/-- RX_CLASSIFY (R201). -/
def execRxClassify (s : State) : Host.Outcome State Fault Refusal :=
  if s.lcState ≠ .established then refuseWith .notEstablished s
  else if s.payloadTooLong then refuseWith .oversize s
  else .next (classify s)

/-- RX_COMMIT (R205): the advance of an ACCEPT is computed from `RX_ACKSEQ`. -/
def execRxCommit (s : State) : Host.Outcome State Fault Refusal :=
  if ¬ s.rxPend then refuseWith .noPending s
  else if s.rxAction = .fin ∧ s.lcState ≠ .established then refuseWith .badTransition s
  else
    .next { s with
      expSeq := if s.rxAction = .accept then s.rxAckSeq + 1 else s.expSeq
      lcState := if s.rxAction = .fin then .finRcvd else s.lcState
      rxPend := false }

end Sys2Proof.Machine
end

