-- ==== Sys2Proof/Machine/Timer.lean ====
section
/-! DEFINITION. The timer unit (44_timer.md): TMR_ARM, TMR_DISARM and the tick input. -/

namespace Sys2Proof.Machine

/-- TMR_ARM (R220): a reload value of 0 expires at once (R221). -/
def execTmrArm (s : State) : Host.Outcome State Fault Refusal :=
  .next { s with
    tmrCnt := s.tmrReload
    tmrRun := decide (s.tmrReload ≠ 0)
    tmrExp := decide (s.tmrReload = 0) }

/-- TMR_DISARM (R222). -/
def execTmrDisarm (s : State) : Host.Outcome State Fault Refusal :=
  .next { s with tmrCnt := 0, tmrRun := false, tmrExp := false }

/-- A tick of the tick source (R224). A running timer's count is above 0 in every run; at 0 it would wrap (log
entry 6). -/
def timerTick (s : State) : State :=
  if s.tmrRun then
    { s with
      tmrCnt := s.tmrCnt - 1
      tmrRun := decide (s.tmrCnt - 1 ≠ 0)
      tmrExp := if s.tmrCnt - 1 = 0 then true else s.tmrExp }
  else s

end Sys2Proof.Machine
end

