-- ==== Sys2Proof/Machine/Window.lean ====
section
/-! DEFINITION. The window unit (42_window.md): WIN_START, WIN_SENT, WIN_ACK and WIN_FAIL. -/

namespace Sys2Proof.Machine

/-- `advance_to(b)` (R173): a correct acknowledgement moves the base to `b`. -/
def advanceTo (b : Nat) (s : State) : State :=
  { s with
    winBase := BitVec.ofNat 9 b
    winWs := 2
    winFailcnt := 0
    winCursor := BitVec.ofNat 9 (max s.winCursor.toNat b)
    expSeq := s.seqw b
    winActive := if b = s.winN.toNat then false else s.winActive
    winDone := if b = s.winN.toNat then true else s.winDone }

/-- `fail()` (R173): any failure of an acknowledgement wait. -/
def failWait (s : State) : State :=
  { s with
    winCursor := s.winBase
    winWs := 1
    winFailcnt := saturatingInc s.winFailcnt
    winActive := if s.limData.toNat ≤ (saturatingInc s.winFailcnt).toNat then false else s.winActive
    winFailed := if s.limData.toNat ≤ (saturatingInc s.winFailcnt).toNat then true else s.winFailed }

/-- The outcome of an acknowledgement wait that received a frame (R178): judged by the packet register set
and by VOK, which the verification has just set. -/
def judgeAck (s : State) : State :=
  if s.vok ∧ s.pktType = typeDATAACK ∧ s.pktSeq = s.seqw s.winBase.toNat then
    advanceTo (s.winBase.toNat + 1) s
  else if s.vok ∧ s.pktType = typeDATAACK ∧ s.winWs = 2 ∧ s.pktSeq = s.seqw s.winTop then
    advanceTo (s.winTop + 1) s
  else failWait s

/-- WIN_START (R174): a send that is active is abandoned. NOT_ESTABLISHED is checked before BAD_COUNT. -/
def execWinStart (s : State) : Host.Outcome State Fault Refusal :=
  if s.lcState ≠ .established then refuseWith .notEstablished s
  else if s.winN.toNat < 1 ∨ 256 < s.winN.toNat then refuseWith .badCount s
  else
    .next { s with
      winAnchor := s.expSeq
      winBase := 0
      winCursor := 0
      winWs := 1
      winFailcnt := 0
      winActive := true
      winDone := false
      winFailed := false }

/-- WIN_SENT (R176): the chunk at the cursor was transmitted. -/
def execWinSent (s : State) : Host.Outcome State Fault Refusal :=
  if ¬ s.winActive then refuseWith .winInactive s
  else if s.winTop < s.winCursor.toNat then refuseWith .noSendSlot s
  else .next { s with winCursor := s.winCursor + 1 }

/-- WIN_ACK (R178): a frame was received during an acknowledgement wait; its checksum is verified before any
field of it is trusted. -/
def execWinAck (s : State) : Host.Outcome State Fault Refusal :=
  if ¬ s.winActive then refuseWith .winInactive s
  else if s.payloadTooLong then refuseWith .oversize s
  else .next (judgeAck (verifyStep s))

/-- WIN_FAIL (R181): an acknowledgement wait ended without a usable frame. -/
def execWinFail (s : State) : Host.Outcome State Fault Refusal :=
  if ¬ s.winActive then refuseWith .winInactive s else .next (failWait s)

end Sys2Proof.Machine
end

