-- ==== Sys2Proof/Machine/Command.lean ====
section
/-! DEFINITION. Executing a command word (45_host_access.md R244). -/

namespace Sys2Proof.Machine

/-- Run the rule of a command (R85, R244). A host transaction is no command: no command word decodes to one
(Laws/Decode.lean), so its arms are never reached. -/
def runCommand (c : Instr) (s : State) : Host.Outcome State Fault Refusal :=
  match c with
  | .nop => execNop s
  | .csumGen => execCsumGen s
  | .verify => execVerify s
  | .serialize => execSerialize s
  | .deserialize => execDeserialize s
  | .encode => execEncode s
  | .decode => execDecode s
  | .pktClear => execPktClear s
  | .errClr => execErrClr s
  | .lcSet S => execLcSet S s
  | .ctxReset => execCtxReset s
  | .seqReset => execSeqReset s
  | .seqInc => execSeqInc s
  | .attClr => execAttClr s
  | .attInc PH => execAttInc PH s
  | .winStart => execWinStart s
  | .winSent => execWinSent s
  | .winAck => execWinAck s
  | .winFail => execWinFail s
  | .rxClassify => execRxClassify s
  | .rxCommit => execRxCommit s
  | .tmrArm => execTmrArm s
  | .tmrDisarm => execTmrDisarm s
  | .regRd _ => refuseWith .illegalCmd s
  | .regWr _ _ => refuseWith .illegalCmd s
  | .pbRd _ => refuseWith .illegalCmd s
  | .pbWr _ _ => refuseWith .illegalCmd s
  | .fbRd _ => refuseWith .illegalCmd s
  | .fbWr _ _ => refuseWith .illegalCmd s

/-- `execute(w)` (R244): an illegal command word reports ILLEGAL_CMD (R87) and has no other effect. -/
def executeWord (w : Word) (s : State) : Host.Outcome State Fault Refusal :=
  match decodeCommand w with
  | .ok c => runCommand c s
  | .error _ => refuseWith .illegalCmd s

end Sys2Proof.Machine
end

