-- ==== Sys2Proof/Machine/HostAccess.lean ====
section
/-! DEFINITION. The six host transactions (45_host_access.md §3, §4). -/

namespace Sys2Proof.Machine

/-- REG_RD (R245). -/
def execRegRd (addr : BitVec 16) (s : State) : Host.Outcome State Fault Refusal :=
  match regOfAddress addr with
  | none => refuseRead .badReg s
  | some r => answer (readReg s r) s

/-- Store the implemented bits of `v` in a register, and clear VOK if it is of the packet register set (R103,
R246). -/
def hostWriteReg (r : Reg) (v : Word) (s : State) : State :=
  { writeReg s v r with vok := if inPacketSet r then false else (writeReg s v r).vok }

/-- REG_WR (R246). A write of `CMD` executes the command word written (R244). -/
def execRegWr (addr data : BitVec 16) (s : State) : Host.Outcome State Fault Refusal :=
  match regOfAddress addr with
  | none => refuseWith .badReg s
  | some r =>
    if regAccess r = .readOnly then refuseWith .badReg s
    else if r = .winN ∧ s.winActive then refuseWith .badReg s
    else if r = .cmd then executeWord data s
    else .next (hostWriteReg r data s)

/-- PB_RD (R247): what `PBUF` holds, also at or beyond `PKT_PLEN`. -/
def execPbRd (addr : BitVec 16) (s : State) : Host.Outcome State Fault Refusal :=
  if s.params.P ≤ addr.toNat then refuseRead .badAddr s
  else answer ((s.pbufByte addr.toNat).setWidth 16) s

/-- PB_WR (R248): DATA[7:0] is stored, DATA[15:8] ignored, and VOK cleared (R103). -/
def execPbWr (addr data : BitVec 16) (s : State) : Host.Outcome State Fault Refusal :=
  if s.params.P ≤ addr.toNat then refuseWith .badAddr s
  else .next { s with pbuf := s.pbuf.store addr.toNat [data.extractLsb' 0 8], vok := false }

/-- FB_RD (R249). -/
def execFbRd (addr : BitVec 16) (s : State) : Host.Outcome State Fault Refusal :=
  if s.params.P + 4 ≤ addr.toNat then refuseRead .badAddr s
  else answer ((s.fbufByte addr.toNat).setWidth 16) s

/-- FB_WR (R250): `FLEN` is not changed. -/
def execFbWr (addr data : BitVec 16) (s : State) : Host.Outcome State Fault Refusal :=
  if s.params.P + 4 ≤ addr.toNat then refuseWith .badAddr s
  else .next { s with fbuf := s.fbuf.store addr.toNat [data.extractLsb' 0 8] }

end Sys2Proof.Machine
end

