-- ==== Sys2Proof/Machine/Dispatch.lean ====
section
/-! DEFINITION. One arm for each instruction of the opcode table. -/

namespace Sys2Proof.Machine

def exec (i : Instr) (s : State) : Host.Outcome State Fault Refusal :=
  match i with
  | .nop => Sys2Proof.Machine.execNop s
  | .csumGen => Sys2Proof.Machine.execCsumGen s
  | .verify => Sys2Proof.Machine.execVerify s
  | .serialize => Sys2Proof.Machine.execSerialize s
  | .deserialize => Sys2Proof.Machine.execDeserialize s
  | .encode => Sys2Proof.Machine.execEncode s
  | .decode => Sys2Proof.Machine.execDecode s
  | .pktClear => Sys2Proof.Machine.execPktClear s
  | .errClr => Sys2Proof.Machine.execErrClr s
  | .lcSet S => Sys2Proof.Machine.execLcSet S s
  | .ctxReset => Sys2Proof.Machine.execCtxReset s
  | .seqReset => Sys2Proof.Machine.execSeqReset s
  | .seqInc => Sys2Proof.Machine.execSeqInc s
  | .attClr => Sys2Proof.Machine.execAttClr s
  | .attInc PH => Sys2Proof.Machine.execAttInc PH s
  | .winStart => Sys2Proof.Machine.execWinStart s
  | .winSent => Sys2Proof.Machine.execWinSent s
  | .winAck => Sys2Proof.Machine.execWinAck s
  | .winFail => Sys2Proof.Machine.execWinFail s
  | .rxClassify => Sys2Proof.Machine.execRxClassify s
  | .rxCommit => Sys2Proof.Machine.execRxCommit s
  | .tmrArm => Sys2Proof.Machine.execTmrArm s
  | .tmrDisarm => Sys2Proof.Machine.execTmrDisarm s
  | .regRd addr => Sys2Proof.Machine.execRegRd addr s
  | .regWr addr data => Sys2Proof.Machine.execRegWr addr data s
  | .pbRd addr => Sys2Proof.Machine.execPbRd addr s
  | .pbWr addr data => Sys2Proof.Machine.execPbWr addr data s
  | .fbRd addr => Sys2Proof.Machine.execFbRd addr s
  | .fbWr addr data => Sys2Proof.Machine.execFbWr addr data s

end Sys2Proof.Machine
end

