-- ==== Sys2Proof/Machine/Inputs.lean ====
section
/-! DEFINITION. What each agent's step does (00_scope.md R6, R8): a host transaction, a hardware reset, and
taking an input off the queue. The tick stands in Machine/Timer.lean. -/

namespace Sys2Proof.Machine

/-- The state at the start of a host transaction: its word is taken, and what the last one returned is no
longer on the bus. -/
def beginTransaction (rest : List Input) (s : State) : State := { s with inputs := rest, reply := none }

/-- The state at the start of a tick or a reset: the input is taken. -/
def takeInput (rest : List Input) (s : State) : State := { s with inputs := rest }

/-- One host transaction (R90, R252): a word that decodes runs its rule; a reserved `KIND`, or a read with
`DATA` ≠ 0, reports ILLEGAL_CMD and returns 0 (R91, R251). -/
def runTransaction (w : BitVec 35) (s : State) : Host.Outcome State Fault Refusal :=
  match decodeTransaction w with
  | .ok i => exec i s
  | .error _ => refuseRead .illegalCmd s

/-- The reset input (R290): every stored field takes its reset value (R291), the buffers' contents become
unspecified, and what the agents do later is still to come (DEDUCED, log entry 7). -/
def hardwareReset (s : State) : State :=
  { State.init s.params with resets := s.resets + 1, inputs := s.inputs }

end Sys2Proof.Machine
end

