-- ==== Sys2Proof/Machine/Step.lean ====
section
/-! DEFINITION. One step of the machine: the next input of the host, the tick source or the reset input, as one
atomic step (00_scope.md R8). -/

namespace Sys2Proof.Machine

/-- One step (R8). With no input waiting the block waits and its state persists (R281, R293). -/
def step (s : State) : Host.Outcome State Fault Refusal :=
  match s.inputs with
  | [] => .next s
  | .transaction w :: rest => runTransaction w (beginTransaction rest s)
  | .tick :: rest => .next (timerTick (takeInput rest s))
  | .reset :: rest => .next (hardwareReset (takeInput rest s))

/-- The state whose very next step runs a table word (log entry 4): the host issues it as its next
transaction, a command word by a write of `CMD`. -/
def State.withFetchWord (s : State) (nbits w : Nat) : State :=
  { s with inputs := .transaction (tableTransaction nbits w) :: s.inputs }

end Sys2Proof.Machine
end

