-- ==== Sys2Proof/Safety.lean ====
section
/-! DEFINITION. What the statements speak of: the invariant of the block, the instruction an input issues, and
runs over lists of instructions or inputs. -/

namespace Sys2Proof.Machine

/-! ## The invariant -/

/-- The buffers are canonical and lie within their ranges (20_memory.md R60). -/
structure State.BuffersOk (s : State) : Prop where
  pbuf_wf : s.pbuf.wf
  pbuf_below : s.pbuf.below s.params.P
  fbuf_wf : s.fbuf.wf
  fbuf_below : s.fbuf.below (s.params.P + 4)

/-- `ERRCODE` is 0 exactly when `STATUS.ERR` is 0 (R31). -/
def State.ErrorReportOk (s : State) : Prop := s.err = true ↔ s.errcode ≠ .none

/-- The timer runs exactly while its count is above 0 (R224, R226, R229), and a running timer has not expired
(R220). -/
structure State.TimerOk (s : State) : Prop where
  run_iff : s.tmrRun = true ↔ s.tmrCnt ≠ 0
  run_not_expired : s.tmrRun = true → s.tmrExp = false

/-- The window: its size is 1 or 2 (R53, R186), base and cursor lie in 0 to 256 (R52), a send does not both
complete and fail (R182), and during a send the clauses of R183 about base, top and cursor hold. -/
structure State.WindowOk (s : State) : Prop where
  size : s.winWs = 1 ∨ s.winWs = 2
  base_le : s.winBase.toNat ≤ 256
  cursor_le : s.winCursor.toNat ≤ 256
  base_le_cursor : s.winBase.toNat ≤ s.winCursor.toNat
  not_both : ¬ (s.winDone = true ∧ s.winFailed = true)
  active_open : s.winActive = true → s.winDone = false ∧ s.winFailed = false
  active_count : s.winActive = true → s.winBase.toNat < s.winN.toNat ∧ s.winN.toNat ≤ 256
  active_cursor : s.winActive = true → s.winCursor.toNat ≤ s.winTop + 1
  active_top : s.winActive = true →
    s.winBase.toNat ≤ s.winTop ∧ s.winTop ≤ s.winBase.toNat + 1 ∧ s.winTop ≤ s.winN.toNat - 1

/-- The receiver's verdict: a pending one is never NONE (V11), and no response is due exactly for NONE, FIN and
PROTO (R43, R203). -/
structure State.VerdictOk (s : State) : Prop where
  pending : s.rxPend = true → s.rxAction ≠ .none
  response : s.rxAckType = noResponse ↔ (s.rxAction = .none ∨ s.rxAction = .fin ∨ s.rxAction = .proto)

/-- What every step keeps, whatever the agents do. -/
structure State.Inv (s : State) : Prop where
  params : s.params.legal
  buffers : s.BuffersOk
  report : s.ErrorReportOk
  timer : s.TimerOk
  window : s.WindowOk
  receiver : s.VerdictOk

/-- `STATUS.VOK` is 1 only if the packet register set verifies (R103, R104). -/
def State.VokSound (s : State) : Prop := s.vok = true → s.verifies = true

/-- During a send `EXP_SEQ` is the sequence number of the base (R172). -/
def State.BaseAnchored (s : State) : Prop := s.winActive = true → s.expSeq = s.seqw s.winBase.toNat

/-! ## What an input issues -/

/-- The instruction a host transaction comes to: a write of `CMD` whose word is legal is that command (R244),
anything else is itself. -/
def issuedBy : Instr → Instr
  | .regWr a d =>
    if a = 0x0001 then
      match decodeCommand d with
      | .ok c => c
      | .error _ => .regWr a d
    else .regWr a d
  | i => i

/-- The instruction an input issues, if it is a transaction that decodes. -/
def Input.issued : Input → Option Instr
  | .transaction w =>
    match decodeTransaction w with
    | .ok i => some (issuedBy i)
    | .error _ => none
  | .tick => none
  | .reset => none

/-! ## Runs -/

/-- Run a list of instructions in order. -/
def runAll : List Instr → State → Host.Outcome State Fault Refusal
  | [], s => .next s
  | i :: rest, s =>
    match exec i s with
    | .next t => runAll rest t
    | .fault r => .fault r
    | .refused r => .refused r

/-- The state after one input, played on its own; the state itself where the step stops (it never does). -/
def playInput (x : Input) (s : State) : State :=
  match step { s with inputs := [x] } with
  | .next t => t
  | .fault _ => s
  | .refused _ => s

/-- Whether an input is an outcome report of an acknowledgement wait that the window unit takes: a WIN_FAIL, or
a WIN_ACK that is not refused, while a send is active (R178, R181). -/
def isOutcomeReport (x : Input) (s : State) : Bool :=
  s.winActive &&
    match x.issued with
    | some .winFail => true
    | some .winAck => !s.payloadTooLong
    | _ => false

/-- How many outcome reports the window unit takes along a list of inputs. -/
def outcomeReports : List Input → State → Nat
  | [], _ => 0
  | x :: rest, s => (if isOutcomeReport x s then 1 else 0) + outcomeReports rest (playInput x s)

/-- The sequence number an input commits, if it is an RX_COMMIT of a pending ACCEPT (R205). -/
def committedSeq (x : Input) (s : State) : Option Byte :=
  match x.issued with
  | some .rxCommit => if s.rxPend && decide (s.rxAction = .accept) then some s.rxAckSeq else none
  | _ => none

/-- The sequence numbers of the chunks committed along a list of inputs, in order. -/
def committedSeqs : List Input → State → List Byte
  | [], _ => []
  | x :: rest, s => (committedSeq x s).toList ++ committedSeqs rest (playInput x s)

end Sys2Proof.Machine
end

