-- ==== Sys2Proof/Certificates/Slice0/Obligations.lean ====
section
/-! DEFINITION. The statements for the provers. Each formalises the rules of spec/ its docstring cites. A next
state written as a record update of the old one is the frame too: every field it does not name is unchanged. -/

open Sys2Proof Sys2Proof.Machine

/-! ## Encodings (30_encoding.md) -/

/-- Decoding the word of a well-formed instruction gives it back, with every operand at every value its field
admits (R84 to R92). -/
def Obligations.DecodeInvertsEncode : Prop :=
  ∀ i : Instr, i.wellFormed = true → decode (encode i) = .ok i

/-- Every word that decodes, decodes to a well-formed instruction and is its only encoding (R88, R90, R91). -/
def Obligations.EncodeInvertsDecode : Prop :=
  ∀ (c : CodeWord) (i : Instr), decode c = .ok i → i.wellFormed = true ∧ encode i = c

/-- Exactly one row of the opcode table matches each legal word, the row of the instruction it decodes to, and
no row matches an illegal word (R88; for host transaction words R90, R91). -/
def Obligations.OneTableRowPerLegalWord : Prop :=
  ∀ c : CodeWord,
    (∀ i, decode c = .ok i → matchingRows c = [i.mnemonic])
    ∧ (∀ e, decode c = .error e → matchingRows c = [])

/-- The example encodings of R96. -/
def Obligations.ExampleEncodings : Prop :=
  encode .serialize = .command 0x0003
  ∧ (encode .serialize).asTransaction = (0x100010003 : BitVec 35)
  ∧ lifecycleOfCode 3 = some .established
  ∧ encode (.lcSet 3) = .command 0x0310
  ∧ (encode (.lcSet 3)).asTransaction = (0x100010310 : BitVec 35)
  ∧ encode (.attInc .close) = .command 0x0115
  ∧ regOfAddress 0x0002 = some .status
  ∧ encode (.regRd 0x0002) = .transaction 0x000020000
  ∧ encode (.pbWr 3 0x41) = .transaction 0x300030041
  ∧ decodeCommand 0x0003 = .ok .serialize
  ∧ decodeCommand 0x0310 = .ok (.lcSet 3)
  ∧ decodeCommand 0x0115 = .ok (.attInc .close)
  ∧ decodeTransaction 0x100010003 = .ok (.regWr 0x0001 0x0003)
  ∧ decodeTransaction 0x100010310 = .ok (.regWr 0x0001 0x0310)
  ∧ decodeTransaction 0x000020000 = .ok (.regRd 0x0002)
  ∧ decodeTransaction 0x300030041 = .ok (.pbWr 3 0x41)
  ∧ decodeCommand 0x0610 = .error .reservedLifecycleCode
  ∧ decodeCommand 0x0102 = .error .argumentBits

/-- The opcode map of R85: each listed `OP` with its mnemonic, and every other `OP` reserved. -/
def Obligations.OpcodeMap : Prop :=
  decodeCommand 0x0000 = .ok .nop ∧ decodeCommand 0x0001 = .ok .csumGen
  ∧ decodeCommand 0x0002 = .ok .verify ∧ decodeCommand 0x0003 = .ok .serialize
  ∧ decodeCommand 0x0004 = .ok .deserialize ∧ decodeCommand 0x0005 = .ok .encode
  ∧ decodeCommand 0x0006 = .ok .decode ∧ decodeCommand 0x0007 = .ok .pktClear
  ∧ decodeCommand 0x0008 = .ok .errClr ∧ decodeCommand 0x0010 = .ok (.lcSet 0)
  ∧ decodeCommand 0x0011 = .ok .ctxReset ∧ decodeCommand 0x0012 = .ok .seqReset
  ∧ decodeCommand 0x0013 = .ok .seqInc ∧ decodeCommand 0x0014 = .ok .attClr
  ∧ decodeCommand 0x0015 = .ok (.attInc .connect) ∧ decodeCommand 0x0020 = .ok .winStart
  ∧ decodeCommand 0x0021 = .ok .winSent ∧ decodeCommand 0x0022 = .ok .winAck
  ∧ decodeCommand 0x0023 = .ok .winFail ∧ decodeCommand 0x0028 = .ok .rxClassify
  ∧ decodeCommand 0x0029 = .ok .rxCommit ∧ decodeCommand 0x0030 = .ok .tmrArm
  ∧ decodeCommand 0x0031 = .ok .tmrDisarm
  ∧ ∀ w : BitVec 16,
      w.extractLsb' 0 8 ∉
        ([0x00, 0x01, 0x02, 0x03, 0x04, 0x05, 0x06, 0x07, 0x08, 0x10, 0x11, 0x12, 0x13, 0x14, 0x15,
          0x20, 0x21, 0x22, 0x23, 0x28, 0x29, 0x30, 0x31] : List (BitVec 8)) →
      decodeCommand w = .error .reservedOpcode

/-- R87: a command word is illegal exactly when its `OP` is reserved, an `ARG` bit that R86 requires to be 0 is
1, or it is an LC_SET whose `S` is 6 or 7; the block then reports ILLEGAL_CMD and does nothing else; the
all-zero word is NOP. -/
def Obligations.IllegalCommandWords : Prop :=
  decodeCommand 0x0000 = .ok .nop
  ∧ ∀ w : BitVec 16,
      ((w.extractLsb' 0 8 ∉
          ([0x00, 0x01, 0x02, 0x03, 0x04, 0x05, 0x06, 0x07, 0x08, 0x10, 0x11, 0x12, 0x13, 0x14, 0x15,
            0x20, 0x21, 0x22, 0x23, 0x28, 0x29, 0x30, 0x31] : List (BitVec 8))
        ∨ (w.extractLsb' 0 8 = 0x10 ∧ w.extractLsb' 11 5 ≠ 0)
        ∨ (w.extractLsb' 0 8 = 0x10 ∧ 6 ≤ (w.extractLsb' 8 3).toNat)
        ∨ (w.extractLsb' 0 8 = 0x15 ∧ w.extractLsb' 9 7 ≠ 0)
        ∨ (w.extractLsb' 0 8 ≠ 0x10 ∧ w.extractLsb' 0 8 ≠ 0x15 ∧ w.extractLsb' 8 8 ≠ 0))
        ↔ ∃ e, decodeCommand w = .error e)
      ∧ ∀ e s, decodeCommand w = .error e → exec (.regWr 0x0001 w) s = .next (raiseError .illegalCmd s)

/-- The transaction kinds of R91, and its two refusals: a reserved `KIND` (R251) and a read whose `DATA` is not
0 report ILLEGAL_CMD, return 0, and have no other effect. That a reserved `KIND` returns 0 in every case, and not only
if the host expects data, is the model's choice (log entry 5); so is the queue of inputs (log entry 4). -/
def Obligations.TransactionKinds : Prop :=
  (∀ a d : BitVec 16,
    decodeTransaction ((0 : BitVec 3) ++ a ++ (0 : BitVec 16)) = .ok (.regRd a)
    ∧ decodeTransaction ((1 : BitVec 3) ++ a ++ d) = .ok (.regWr a d)
    ∧ decodeTransaction ((2 : BitVec 3) ++ a ++ (0 : BitVec 16)) = .ok (.pbRd a)
    ∧ decodeTransaction ((3 : BitVec 3) ++ a ++ d) = .ok (.pbWr a d)
    ∧ decodeTransaction ((4 : BitVec 3) ++ a ++ (0 : BitVec 16)) = .ok (.fbRd a)
    ∧ decodeTransaction ((5 : BitVec 3) ++ a ++ d) = .ok (.fbWr a d))
  ∧ ∀ (s : State) (rest : List Input) (k : BitVec 3) (a d : BitVec 16),
      s.inputs = .transaction (k ++ a ++ d) :: rest →
      (k = 6 ∨ k = 7 ∨ ((k = 0 ∨ k = 2 ∨ k = 4) ∧ d ≠ 0)) →
      step s = .next { raiseError .illegalCmd { s with inputs := rest } with reply := some 0 }

/-! ## Steps -/

/-- A step runs the decoded instruction (R8, R90): the word of the next transaction decodes to a well-formed
instruction `i`, and the step is `exec i` on the state with that input taken and no reply on the bus; a write of
`CMD` with a legal command word is that command; with no input the block waits (R293). The queue of inputs
and the waiting step are the model's (log entry 4). -/
def Obligations.StepRunsDecodedInstruction : Prop :=
  (∀ (s : State) (w : BitVec 35) (rest : List Input) (i : Instr),
    s.inputs = .transaction w :: rest → decodeTransaction w = .ok i →
    i.wellFormed = true ∧ step s = exec i { s with inputs := rest, reply := none })
  ∧ (∀ (s : State) (v : Word) (rest : List Input) (c : Instr),
    s.inputs = .transaction ((1 : BitVec 3) ++ (0x0001 : BitVec 16) ++ v) :: rest →
    decodeCommand v = .ok c →
    c.wellFormed = true ∧ step s = exec c { s with inputs := rest, reply := none })
  ∧ ∀ s : State, s.inputs = [] → step s = .next s

/-- A write of `CMD` executes the command its word encodes, as one step; an illegal word reports ILLEGAL_CMD
(R244). -/
def Obligations.CmdWriteExecutesCommand : Prop :=
  ∀ (w : Word) (s : State),
    (∀ c, decodeCommand w = .ok c → exec (.regWr 0x0001 w) s = exec c s)
    ∧ (∀ e, decodeCommand w = .error e → exec (.regWr 0x0001 w) s = .next (raiseError .illegalCmd s))

/-- Every step gives a next state. This is the model's reading: an error is a report after which the block goes on
(R263) and there is no trap (R273), from which log entry 9 deduces that no step stops; that a step with no input
waiting gives the state itself is the model's choice (log entry 4). -/
def Obligations.EveryStepCompletes : Prop := ∀ s : State, ∃ t, step s = .next t

/-- The parameters are fixed for a run (R9), and `PARAM_P` never changes (R26). -/
def Obligations.ParametersNeverChange : Prop :=
  ∀ s t : State, step s = .next t → t.params = s.params ∧ readReg t .paramP = readReg s .paramP

/-- What the reset step leaves in every register (R291), from any state; the buffers' contents are unspecified
and nothing is said of them. -/
def Obligations.ResetValues : Prop :=
  ∀ (s : State) (rest : List Input), s.inputs = .reset :: rest →
    ∃ t, step s = .next t
      ∧ readReg t .paramP = BitVec.ofNat 16 s.params.P
      ∧ readReg t .cmd = 0
      ∧ t.vok = false ∧ t.err = false ∧ t.tmrRun = false ∧ t.tmrExp = false
      ∧ t.winActive = false ∧ t.winDone = false ∧ t.winFailed = false ∧ t.winCanSend = false
      ∧ t.attExh = false ∧ t.rxPend = false ∧ t.typeValid = true ∧ t.irq = false
      ∧ readReg t .status = 0x0400
      ∧ readReg t .errcode = 0 ∧ readReg t .ien = 0
      ∧ readReg t .pktType = 0x00 ∧ readReg t .pktSeq = 0x00
      ∧ readReg t .pktCsum = 0x0000 ∧ readReg t .pktPlen = 0x0000
      ∧ readReg t .csumCalc = 0x0000 ∧ readReg t .flen = 0x0000
      ∧ readReg t .lcState = 0 ∧ t.lcState = .closed
      ∧ readReg t .expSeq = 0x00 ∧ readReg t .attCnt = 0x00
      ∧ readReg t .limConnect = 10 ∧ readReg t .limClose = 10 ∧ readReg t .limData = 10
      ∧ readReg t .rxAction = 0 ∧ readReg t .rxAckType = 0xFF ∧ readReg t .rxAckSeq = 0x00
      ∧ readReg t .winN = 0 ∧ readReg t .winBase = 0 ∧ readReg t .winTop = 0
      ∧ readReg t .winCursor = 0 ∧ readReg t .winWs = 1 ∧ readReg t .winFailcnt = 0
      ∧ readReg t .winAnchor = 0x00 ∧ readReg t .winNextSeq = 0x00
      ∧ readReg t .tmrReload = s.params.T0 ∧ readReg t .tmrCnt = 0
      ∧ t.params = s.params ∧ t.inputs = rest

/-- The invariant holds right after reset. `State.reset` stands at the model's choice of the parameters (log
entry 2); the statement is made for every legal choice. -/
def Obligations.InvariantHoldsAtReset : Prop :=
  State.reset.Inv ∧ State.reset.VokSound
  ∧ ∀ p : Config.Params, p.legal → (State.init p).Inv ∧ (State.init p).VokSound

/-- Every step keeps the invariant: canonical buffers within their ranges, the error report, the timer, the
window (R183, R186) and the receiver's verdict, whatever the agents do. -/
def Obligations.EveryStepKeepsInvariant : Prop :=
  ∀ s t : State, s.Inv → step s = .next t → t.Inv

/-- Every step keeps this: VOK is 1 only while the packet register set verifies (R103, R104). -/
def Obligations.VokAlwaysMeansVerified : Prop :=
  ∀ s t : State, s.VokSound → step s = .next t → t.VokSound

/-! ## Error reports (60_exceptions.md) -/

/-- R262 and R263. `u` is what an instruction does from a state whose report is clear. If it reports an error
there, then from the state itself it changes nothing but the report, which keeps an earlier error, and the data
a read returns, which is 0. If it does not, then a report that stands neither blocks it nor is changed by it, ERR_CLR apart. -/
def Obligations.ErrorReportsArePreciseAndSticky : Prop :=
  (∀ (code : ErrCode) (s : State),
    raiseError code s = { s with err := true, errcode := if s.err then s.errcode else code })
  ∧ ∀ (i : Instr) (s u : State), exec i { s with err := false, errcode := .none } = .next u →
      (u.err = true →
        u.errcode ≠ .none
        ∧ ∃ t, exec i s = .next t
          ∧ t = { s with err := true, errcode := if s.err then s.errcode else u.errcode, reply := t.reply }
          ∧ ((∃ a, i = .regRd a ∨ i = .pbRd a ∨ i = .fbRd a) → t.reply = some 0)
          ∧ ((∀ a, i ≠ .regRd a ∧ i ≠ .pbRd a ∧ i ≠ .fbRd a) → t.reply = s.reply))
      ∧ (u.err = false → issuedBy i ≠ .errClr →
        ∃ t, exec i s = .next t ∧ t = { u with err := s.err, errcode := s.errcode, reply := t.reply })

/-- ERR_CLR (R241): it clears the report, and nothing but it and a reset does. -/
def Obligations.ErrClrClearsTheReport : Prop :=
  decodeCommand 0x0008 = .ok .errClr
  ∧ (∀ s : State, exec .errClr s = .next { s with err := false, errcode := .none })
  ∧ ∀ (s t : State) (x : Input) (rest : List Input), s.inputs = x :: rest → step s = .next t →
      s.err = true → t.err = false → x = .reset ∨ x.issued = some .errClr

/-- NOP (R240): no effect; with `ARG` ≠ 0 it is illegal. -/
def Obligations.NopHasNoEffect : Prop :=
  decodeCommand 0x0000 = .ok .nop
  ∧ (∀ s : State, exec .nop s = .next s)
  ∧ ∀ a : BitVec 8, a ≠ 0 → decodeCommand (a ++ (0x00 : BitVec 8)) = .error .argumentBits

/-! ## Registers and buffers (10_state.md, 20_memory.md, 45_host_access.md) -/

/-- REG_RD of every register of the map (R24, R26, R27): the register zero-extended to 16 bits, and no other
change. -/
def Obligations.RegisterMapReads : Prop :=
  ∀ s : State,
    exec (.regRd 0x00) s = .next { s with reply := some (BitVec.ofNat 16 s.params.P) }
    ∧ exec (.regRd 0x01) s = .next { s with reply := some 0 }
    ∧ exec (.regRd 0x02) s = .next { s with reply := some s.statusWord }
    ∧ exec (.regRd 0x03) s = .next { s with reply := some (BitVec.ofNat 16 (errorCode s.errcode)) }
    ∧ exec (.regRd 0x04) s = .next { s with reply := some (s.ien.setWidth 16) }
    ∧ exec (.regRd 0x08) s = .next { s with reply := some (s.pktType.setWidth 16) }
    ∧ exec (.regRd 0x09) s = .next { s with reply := some (s.pktSeq.setWidth 16) }
    ∧ exec (.regRd 0x0A) s = .next { s with reply := some s.pktCsum }
    ∧ exec (.regRd 0x0B) s = .next { s with reply := some s.pktPlen }
    ∧ exec (.regRd 0x0C) s = .next { s with reply := some s.csumCalc }
    ∧ exec (.regRd 0x0D) s = .next { s with reply := some s.flen }
    ∧ exec (.regRd 0x10) s = .next { s with reply := some (BitVec.ofNat 16 (lifecycleCode s.lcState)) }
    ∧ exec (.regRd 0x11) s = .next { s with reply := some (s.expSeq.setWidth 16) }
    ∧ exec (.regRd 0x12) s = .next { s with reply := some (s.attCnt.setWidth 16) }
    ∧ exec (.regRd 0x13) s = .next { s with reply := some (s.limConnect.setWidth 16) }
    ∧ exec (.regRd 0x14) s = .next { s with reply := some (s.limClose.setWidth 16) }
    ∧ exec (.regRd 0x15) s = .next { s with reply := some (s.limData.setWidth 16) }
    ∧ exec (.regRd 0x18) s = .next { s with reply := some (BitVec.ofNat 16 (rxActionCode s.rxAction)) }
    ∧ exec (.regRd 0x19) s = .next { s with reply := some (s.rxAckType.setWidth 16) }
    ∧ exec (.regRd 0x1A) s = .next { s with reply := some (s.rxAckSeq.setWidth 16) }
    ∧ exec (.regRd 0x20) s = .next { s with reply := some (s.winN.setWidth 16) }
    ∧ exec (.regRd 0x21) s = .next { s with reply := some (s.winBase.setWidth 16) }
    ∧ exec (.regRd 0x22) s = .next { s with reply := some (BitVec.ofNat 16 s.winTop) }
    ∧ exec (.regRd 0x23) s = .next { s with reply := some (s.winCursor.setWidth 16) }
    ∧ exec (.regRd 0x24) s = .next { s with reply := some (s.winWs.setWidth 16) }
    ∧ exec (.regRd 0x25) s = .next { s with reply := some (s.winFailcnt.setWidth 16) }
    ∧ exec (.regRd 0x26) s = .next { s with reply := some (s.winAnchor.setWidth 16) }
    ∧ exec (.regRd 0x27) s = .next { s with reply := some (s.winNextSeq.setWidth 16) }
    ∧ exec (.regRd 0x28) s = .next { s with reply := some s.tmrReload }
    ∧ exec (.regRd 0x29) s = .next { s with reply := some s.tmrCnt }

/-- The numbers the host reads: `ERRCODE` is 0 to 11 as R260 lists the errors, `RX_ACTION` 0 to 7 as R42 lists the
classifications. That the two registers are named values in the model, read through these numbers, is log entry
10. -/
def Obligations.ErrorAndVerdictCodesReadAsNumbers : Prop :=
  ∀ s : State,
    exec (.regRd 0x03) { s with errcode := .none }
      = .next { s with errcode := .none, reply := some 0 }
    ∧ exec (.regRd 0x03) { s with errcode := .illegalCmd }
      = .next { s with errcode := .illegalCmd, reply := some 1 }
    ∧ exec (.regRd 0x03) { s with errcode := .framing }
      = .next { s with errcode := .framing, reply := some 2 }
    ∧ exec (.regRd 0x03) { s with errcode := .oversize }
      = .next { s with errcode := .oversize, reply := some 3 }
    ∧ exec (.regRd 0x03) { s with errcode := .notEstablished }
      = .next { s with errcode := .notEstablished, reply := some 4 }
    ∧ exec (.regRd 0x03) { s with errcode := .badTransition }
      = .next { s with errcode := .badTransition, reply := some 5 }
    ∧ exec (.regRd 0x03) { s with errcode := .winInactive }
      = .next { s with errcode := .winInactive, reply := some 6 }
    ∧ exec (.regRd 0x03) { s with errcode := .noSendSlot }
      = .next { s with errcode := .noSendSlot, reply := some 7 }
    ∧ exec (.regRd 0x03) { s with errcode := .badCount }
      = .next { s with errcode := .badCount, reply := some 8 }
    ∧ exec (.regRd 0x03) { s with errcode := .noPending }
      = .next { s with errcode := .noPending, reply := some 9 }
    ∧ exec (.regRd 0x03) { s with errcode := .badReg }
      = .next { s with errcode := .badReg, reply := some 10 }
    ∧ exec (.regRd 0x03) { s with errcode := .badAddr }
      = .next { s with errcode := .badAddr, reply := some 11 }
    ∧ exec (.regRd 0x18) { s with rxAction := .none }
      = .next { s with rxAction := .none, reply := some 0 }
    ∧ exec (.regRd 0x18) { s with rxAction := .accept }
      = .next { s with rxAction := .accept, reply := some 1 }
    ∧ exec (.regRd 0x18) { s with rxAction := .stale }
      = .next { s with rxAction := .stale, reply := some 2 }
    ∧ exec (.regRd 0x18) { s with rxAction := .nackCsum }
      = .next { s with rxAction := .nackCsum, reply := some 3 }
    ∧ exec (.regRd 0x18) { s with rxAction := .nackGap }
      = .next { s with rxAction := .nackGap, reply := some 4 }
    ∧ exec (.regRd 0x18) { s with rxAction := .syn }
      = .next { s with rxAction := .syn, reply := some 5 }
    ∧ exec (.regRd 0x18) { s with rxAction := .fin }
      = .next { s with rxAction := .fin, reply := some 6 }
    ∧ exec (.regRd 0x18) { s with rxAction := .proto }
      = .next { s with rxAction := .proto, reply := some 7 }

/-- R61 and R25: an access to an address outside a space's range is refused, a refused read returns 0, and
nothing else changes. -/
def Obligations.OutOfRangeAccessesRefused : Prop :=
  ∀ (s : State) (a d : BitVec 16),
    ((a.extractLsb' 6 10 ≠ 0 ∨
        a.extractLsb' 0 6 ∉
          ([0x00, 0x01, 0x02, 0x03, 0x04, 0x08, 0x09, 0x0A, 0x0B, 0x0C, 0x0D, 0x10, 0x11, 0x12, 0x13, 0x14,
            0x15, 0x18, 0x19, 0x1A, 0x20, 0x21, 0x22, 0x23, 0x24, 0x25, 0x26, 0x27, 0x28, 0x29] :
            List (BitVec 6))) →
      exec (.regRd a) s = .next { raiseError .badReg s with reply := some 0 }
      ∧ exec (.regWr a d) s = .next (raiseError .badReg s))
    ∧ (s.params.P ≤ a.toNat →
      exec (.pbRd a) s = .next { raiseError .badAddr s with reply := some 0 }
      ∧ exec (.pbWr a d) s = .next (raiseError .badAddr s))
    ∧ (s.params.P + 4 ≤ a.toNat →
      exec (.fbRd a) s = .next { raiseError .badAddr s with reply := some 0 }
      ∧ exec (.fbWr a d) s = .next (raiseError .badAddr s))

/-- REG_WR of every register the host may write (R24, R246): the implemented bits are stored, a write of the
packet register set clears VOK (R103), and nothing else changes; `WIN_N` is writable only outside a send. -/
def Obligations.RegisterWritesStoreImplementedBits : Prop :=
  ∀ (s : State) (v : Word),
    exec (.regWr 0x04 v) s = .next { s with ien := v.extractLsb' 0 3 }
    ∧ exec (.regWr 0x08 v) s = .next { s with pktType := v.extractLsb' 0 8, vok := false }
    ∧ exec (.regWr 0x09 v) s = .next { s with pktSeq := v.extractLsb' 0 8, vok := false }
    ∧ exec (.regWr 0x0A v) s = .next { s with pktCsum := v, vok := false }
    ∧ exec (.regWr 0x0B v) s = .next { s with pktPlen := v, vok := false }
    ∧ exec (.regWr 0x0D v) s = .next { s with flen := v }
    ∧ exec (.regWr 0x13 v) s = .next { s with limConnect := v.extractLsb' 0 8 }
    ∧ exec (.regWr 0x14 v) s = .next { s with limClose := v.extractLsb' 0 8 }
    ∧ exec (.regWr 0x15 v) s = .next { s with limData := v.extractLsb' 0 8 }
    ∧ exec (.regWr 0x28 v) s = .next { s with tmrReload := v }
    ∧ (s.winActive = false → exec (.regWr 0x20 v) s = .next { s with winN := v.extractLsb' 0 9 })
    ∧ (s.winActive = true → exec (.regWr 0x20 v) s = .next (raiseError .badReg s))

/-- A write of a read-only register, or of a register that holds only derived fields, is refused with BAD_REG
(R23, R24, R246). -/
def Obligations.ReadOnlyRegistersRefuseWrites : Prop :=
  ∀ (s : State) (v : Word) (a : BitVec 16),
    a ∈ ([0x00, 0x02, 0x03, 0x0C, 0x10, 0x11, 0x12, 0x18, 0x19, 0x1A, 0x21, 0x22, 0x23, 0x24, 0x25, 0x26,
          0x27, 0x29] : List (BitVec 16)) →
    exec (.regWr a v) s = .next (raiseError .badReg s)

/-- The bits of `STATUS` (R28), its derived bits (R29), and the interrupt line (R270). -/
def Obligations.StatusBitsAndInterruptLine : Prop :=
  ∀ s : State,
    s.statusWord.getLsbD 0 = s.vok ∧ s.statusWord.getLsbD 1 = s.err
    ∧ s.statusWord.getLsbD 2 = s.tmrRun ∧ s.statusWord.getLsbD 3 = s.tmrExp
    ∧ s.statusWord.getLsbD 4 = s.winActive ∧ s.statusWord.getLsbD 5 = s.winDone
    ∧ s.statusWord.getLsbD 6 = s.winFailed
    ∧ (s.statusWord.getLsbD 7 = true ↔ s.winActive = true ∧ s.winCursor.toNat ≤ s.winTop)
    ∧ s.statusWord.getLsbD 8 = s.attExh ∧ s.statusWord.getLsbD 9 = s.rxPend
    ∧ (s.statusWord.getLsbD 10 = true ↔ s.pktType.toNat ≤ 0x05)
    ∧ s.statusWord.getLsbD 11 = s.irq
    ∧ s.statusWord.extractLsb' 12 4 = 0
    ∧ (s.irq = true ↔
        (s.ien.getLsbD 0 = true ∧ s.tmrExp = true) ∨ (s.ien.getLsbD 1 = true ∧ s.err = true)
        ∨ (s.ien.getLsbD 2 = true ∧ (s.winDone = true ∨ s.winFailed = true)))

/-- The derived window registers: `WIN_TOP` (R51) and `WIN_NEXTSEQ` (R55). -/
def Obligations.DerivedWindowRegisters : Prop :=
  ∀ s : State,
    (s.winN.toNat = 0 → (readReg s .winTop).toNat = 0)
    ∧ (s.winN.toNat ≠ 0 → 1 ≤ s.winWs.toNat →
        (readReg s .winTop).toNat = min (s.winBase.toNat + s.winWs.toNat - 1) (s.winN.toNat - 1)
        ∧ (readReg s .winTop).toNat < 2 ^ 9)
    ∧ (readReg s .winNextSeq).toNat = (s.winAnchor.toNat + s.winCursor.toNat) % 256

/-- PB_RD (R247) and PB_WR (R248) within the range: the byte read zero-extended; the byte written, VOK cleared,
and every other byte as it was. -/
def Obligations.PayloadBufferTransactions : Prop :=
  decodeTransaction 0x200010000 = .ok (.pbRd 1)
  ∧ decodeTransaction 0x300000041 = .ok (.pbWr 0 0x41)
  ∧ ∀ (s : State) (i d : BitVec 16), i.toNat < s.params.P →
      exec (.pbRd i) s = .next { s with reply := some ((s.pbufByte i.toNat).setWidth 16) }
      ∧ ∃ t, exec (.pbWr i d) s = .next t
        ∧ t = { s with pbuf := t.pbuf, vok := false }
        ∧ ∀ j, t.pbufByte j = if j = i.toNat then d.extractLsb' 0 8 else s.pbufByte j

/-- FB_RD (R249) and FB_WR (R250) within the range: the byte read zero-extended; the byte written, and every
other byte and `FLEN` as they were. -/
def Obligations.FrameBufferTransactions : Prop :=
  decodeTransaction 0x400020000 = .ok (.fbRd 2)
  ∧ decodeTransaction 0x500000002 = .ok (.fbWr 0 0x02)
  ∧ ∀ (s : State) (i d : BitVec 16), i.toNat < s.params.P + 4 →
      exec (.fbRd i) s = .next { s with reply := some ((s.fbufByte i.toNat).setWidth 16) }
      ∧ ∃ t, exec (.fbWr i d) s = .next t
        ∧ t = { s with fbuf := t.fbuf }
        ∧ ∀ j, t.fbufByte j = if j = i.toNat then d.extractLsb' 0 8 else s.fbufByte j

/-! ## Codec unit (40_codec.md) -/

/-- The checksum is the complement of the ones'-complement sum of its words (R100): with `S` the plain sum of
the header word and the padded payload's words, the complement is congruent to `S` mod 0xFFFF, and it is 0 only
if every word is 0 (R102 (b)); the checksum is 0x0000 exactly when `S` is ≡ 0 and not all words are 0
(R102 (c)). -/
def Obligations.ChecksumIsOnesComplementSum : Prop :=
  ∀ (P : Nat) (t q : Byte) (buf : Nat → Byte) (n : Nat), n ≤ P →
    let padByte : Nat → Nat := fun j => if j < n then (buf j).toNat else 0
    let S : Nat := 256 * t.toNat + q.toNat
      + ((List.range ((P + 1) / 2)).map (fun k => 256 * padByte (2 * k) + padByte (2 * k + 1))).sum
    (~~~ checksum P t q buf n).toNat % 65535 = S % 65535
    ∧ (checksum P t q buf n = 0xFFFF ↔ S = 0)
    ∧ (checksum P t q buf n = 0x0000 ↔ S % 65535 = 0 ∧ S ≠ 0)

/-- The checksum depends neither on the capacity nor on the bytes at or beyond the payload length (R101,
R102 (a)). -/
def Obligations.ChecksumCoversOnlyThePayload : Prop :=
  ∀ (P P' : Nat) (t q : Byte) (buf buf' : Nat → Byte) (n : Nat), n ≤ P → n ≤ P' →
    (∀ j, j < n → buf j = buf' j) → checksum P t q buf n = checksum P' t q buf' n

/-- A multi-byte change that is not detected (R102 (f)): swapping two aligned words of the payload leaves the
checksum as it is. -/
def Obligations.AlignedWordSwapIsNotDetected : Prop :=
  ∀ (P : Nat) (t q : Byte) (buf buf' : Nat → Byte) (n k l : Nat), n ≤ P → 2 * k + 1 < n → 2 * l + 1 < n →
    buf' (2 * k) = buf (2 * l) → buf' (2 * k + 1) = buf (2 * l + 1) →
    buf' (2 * l) = buf (2 * k) → buf' (2 * l + 1) = buf (2 * k + 1) →
    (∀ j, j / 2 ≠ k → j / 2 ≠ l → buf' j = buf j) →
    checksum P t q buf' n = checksum P t q buf n

/-- The worked values of R106, for every capacity and whatever the bytes beyond the payload are. -/
def Obligations.WorkedChecksumValues : Prop :=
  ∀ (P : Nat) (buf : Nat → Byte), 3 ≤ P →
    checksum P typeSYN 0x00 buf 0 = 0xFFFF
    ∧ checksum P typeSYNACK 0x00 buf 0 = 0xFEFF
    ∧ checksum P typeDATAACK 0x05 buf 0 = 0xFCFA
    ∧ checksum P typeFIN 0x00 buf 0 = 0xFBFF
    ∧ checksum P typeFINACK 0x00 buf 0 = 0xFAFF
    ∧ (buf 0 = 0x41 → buf 1 = 0x42 → buf 2 = 0x43 → checksum P typeDATA 0x05 buf 3 = 0x79B8)
    ∧ (buf 0 = 0xFF → buf 1 = 0xFF → checksum P typeDATA 0xFF buf 2 = 0xFD00)
    ∧ (buf 0 = 0xFD → buf 1 = 0xFF → checksum P typeDATA 0x00 buf 2 = 0x0000)

/-- CSUM_GEN (R105): `PKT_CSUM` and `CSUM_CALC` take the checksum, VOK is set; doing it twice is doing it once; an
empty payload gives the header-only checksum, and bytes at or beyond `PKT_PLEN` have no effect; OVERSIZE changes
nothing else; the rule's example. -/
def Obligations.CsumGenSetsTheChecksum : Prop :=
  decodeCommand 0x0001 = .ok .csumGen
  ∧ ∀ s : State,
      (s.pktPlen.toNat ≤ s.params.P →
        let c := checksum s.params.P s.pktType s.pktSeq s.pbufByte s.pktPlen.toNat
        let t : State := { s with pktCsum := c, csumCalc := c, vok := true }
        exec .csumGen s = .next t
        ∧ exec .csumGen t = .next t
        ∧ (s.pktPlen = 0 → c = ~~~ (s.pktType ++ s.pktSeq))
        ∧ (∀ buf : Nat → Byte, (∀ j, j < s.pktPlen.toNat → buf j = s.pbufByte j) →
            checksum s.params.P s.pktType s.pktSeq buf s.pktPlen.toNat = c)
        ∧ (s.pktType = 0x02 → s.pktSeq = 0x05 → s.pktPlen = 2 → s.pbufByte 0 = 0x41 → s.pbufByte 1 = 0x42 →
            t.pktCsum = 0xBCB8))
      ∧ (s.params.P < s.pktPlen.toNat → exec .csumGen s = .next (raiseError .oversize s))

/-- VERIFY (R107): `CSUM_CALC` takes the computed checksum and VOK says whether `PKT_CSUM` equals it; OVERSIZE
changes nothing else; the rule's two examples. -/
def Obligations.VerifyComparesTheChecksum : Prop :=
  decodeCommand 0x0002 = .ok .verify
  ∧ ∀ s : State,
      (s.pktPlen.toNat ≤ s.params.P →
        let c := checksum s.params.P s.pktType s.pktSeq s.pbufByte s.pktPlen.toNat
        exec .verify s = .next { s with csumCalc := c, vok := decide (s.pktCsum = c) }
        ∧ (s.pktType = 0x02 → s.pktSeq = 0x05 → s.pktPlen = 2 → s.pbufByte 0 = 0x41 →
            (s.pbufByte 1 = 0x42 → c = 0xBCB8) ∧ (s.pbufByte 1 = 0x43 → c = 0xBCB7)))
      ∧ (s.params.P < s.pktPlen.toNat → exec .verify s = .next (raiseError .oversize s))

/-- SERIALIZE (R110): the frame and the zeros past it in FBUF, and `FLEN`; nothing else changes. -/
def Obligations.SerializeWritesTheFrame : Prop :=
  decodeCommand 0x0003 = .ok .serialize
  ∧ ∀ s : State,
      (s.pktPlen.toNat ≤ s.params.P →
        ∃ t, exec .serialize s = .next t
          ∧ t = { s with fbuf := t.fbuf, flen := 4 + s.pktPlen }
          ∧ t.fbufByte 0 = s.pktType ∧ t.fbufByte 1 = s.pktSeq
          ∧ t.fbufByte 2 = s.pktCsum.extractLsb' 8 8 ∧ t.fbufByte 3 = s.pktCsum.extractLsb' 0 8
          ∧ (∀ i, i < s.pktPlen.toNat → t.fbufByte (4 + i) = s.pbufByte i)
          ∧ (∀ i, 4 + s.pktPlen.toNat ≤ i → i < s.params.P + 4 → t.fbufByte i = 0x00))
      ∧ (s.params.P < s.pktPlen.toNat → exec .serialize s = .next (raiseError .oversize s))

/-- DESERIALIZE (R112): the packet register set from the frame, PBUF zero past the payload, VOK cleared; nothing
else changes; FRAMING before OVERSIZE. -/
def Obligations.DeserializeReadsTheFrame : Prop :=
  decodeCommand 0x0004 = .ok .deserialize
  ∧ ∀ s : State,
      (4 ≤ s.flen.toNat → s.flen.toNat ≤ s.params.P + 4 →
        ∃ t, exec .deserialize s = .next t
          ∧ t = { s with
                  pktType := s.fbufByte 0, pktSeq := s.fbufByte 1, pktCsum := s.fbufByte 2 ++ s.fbufByte 3
                  pktPlen := s.flen - 4, pbuf := t.pbuf, vok := false }
          ∧ (∀ i, i + 4 < s.flen.toNat → t.pbufByte i = s.fbufByte (4 + i))
          ∧ (∀ i, s.flen.toNat ≤ i + 4 → i < s.params.P → t.pbufByte i = 0x00))
      ∧ (s.flen.toNat < 4 → exec .deserialize s = .next (raiseError .framing s))
      ∧ (4 ≤ s.flen.toNat → s.params.P + 4 < s.flen.toNat →
          exec .deserialize s = .next (raiseError .oversize s))

/-- ENCODE (R115): its result equals CSUM_GEN followed by SERIALIZE; OVERSIZE changes nothing else; the rule's
example. -/
def Obligations.EncodeIsCsumGenThenSerialize : Prop :=
  decodeCommand 0x0005 = .ok .encode
  ∧ ∀ s : State,
      (s.pktPlen.toNat ≤ s.params.P →
        ∃ u t, exec .csumGen s = .next u ∧ exec .serialize u = .next t ∧ exec .encode s = .next t
          ∧ t.vok = true
          ∧ (s.pktType = 0x03 → s.pktSeq = 0x05 → s.pktPlen = 0 →
              t.fbufByte 0 = 0x03 ∧ t.fbufByte 1 = 0x05 ∧ t.fbufByte 2 = 0xFC ∧ t.fbufByte 3 = 0xFA
              ∧ t.flen = 4))
      ∧ (s.params.P < s.pktPlen.toNat → exec .encode s = .next (raiseError .oversize s))

/-- DECODE (R117): its result equals DESERIALIZE followed by VERIFY, which cannot report OVERSIZE; its errors
are DESERIALIZE's; the rule's example. -/
def Obligations.DecodeIsDeserializeThenVerify : Prop :=
  decodeCommand 0x0006 = .ok .decode
  ∧ ∀ s : State,
      (4 ≤ s.flen.toNat → s.flen.toNat ≤ s.params.P + 4 →
        ∃ u t, exec .deserialize s = .next u ∧ u.pktPlen.toNat ≤ u.params.P
          ∧ exec .verify u = .next t ∧ exec .decode s = .next t ∧ t.err = s.err
          ∧ (s.flen = 4 → s.fbufByte 0 = 0x00 → s.fbufByte 1 = 0x00 → s.fbufByte 2 = 0xFF →
              s.fbufByte 3 = 0xFF →
              t.pktType = typeSYN ∧ t.pktSeq = 0 ∧ t.pktPlen = 0 ∧ t.csumCalc = 0xFFFF ∧ t.vok = true))
      ∧ (s.flen.toNat < 4 → exec .decode s = .next (raiseError .framing s))
      ∧ (4 ≤ s.flen.toNat → s.params.P + 4 < s.flen.toNat → exec .decode s = .next (raiseError .oversize s))

/-- PKT_CLEAR (R119): the packet register set zeroed and VOK cleared, nothing else changed; the cleared packet
does not verify, the computed value being 0xFFFF. -/
def Obligations.PktClearZeroesThePacket : Prop :=
  decodeCommand 0x0007 = .ok .pktClear
  ∧ ∀ s : State, ∃ t u, exec .pktClear s = .next t
      ∧ t = { s with
              pktType := 0x00, pktSeq := 0x00, pktCsum := 0x0000, pktPlen := 0, pbuf := t.pbuf, vok := false }
      ∧ (∀ i, i < s.params.P → t.pbufByte i = 0x00)
      ∧ exec .verify t = .next u ∧ u.csumCalc = 0xFFFF ∧ u.vok = false

/-- The frame ENCODE leaves always verifies when DECODE reads it back unaltered, and gives back the packet; the
bytes at or beyond the payload length come back as zero (R116). `r` is any block with the same capacity
whose FBUF holds the frame. -/
def Obligations.EncodedFrameDecodesToThePacket : Prop :=
  ∀ s t r : State, s.params.legal → s.pktPlen.toNat ≤ s.params.P → exec .encode s = .next t →
    r.params.P = t.params.P → r.flen = t.flen → (∀ i, i < t.flen.toNat → r.fbufByte i = t.fbufByte i) →
    ∃ u, exec .decode r = .next u ∧ u.vok = true
      ∧ u.pktType = s.pktType ∧ u.pktSeq = s.pktSeq ∧ u.pktCsum = t.pktCsum ∧ u.pktPlen = s.pktPlen
      ∧ (∀ i, i < s.pktPlen.toNat → u.pbufByte i = s.pbufByte i)
      ∧ (∀ i, s.pktPlen.toNat ≤ i → i < r.params.P → u.pbufByte i = 0x00)

/-- Every change confined to one byte of a frame is detected (R102 (e)), so every single-bit change is
(R102 (d)): if DECODE of one frame verifies, DECODE of a frame of the same length that differs from it in exactly
one byte does not. -/
def Obligations.OneByteChangeOfAFrameIsDetected : Prop :=
  ∀ (s t s' : State) (j : Nat),
    4 ≤ s.flen.toNat → s.flen.toNat ≤ s.params.P + 4 → exec .decode s = .next t → t.vok = true →
    s'.params.P = s.params.P → s'.flen = s.flen → j < s.flen.toNat → s'.fbufByte j ≠ s.fbufByte j →
    (∀ i, i < s.flen.toNat → i ≠ j → s'.fbufByte i = s.fbufByte i) →
    ∃ t', exec .decode s' = .next t' ∧ t'.vok = false

/-- Every codec command writes only codec state: no context, window, receiver or timer state, no limit and not
`IEN` (R120; for PKT_CLEAR, which R120 leaves out, R119). What it leaves in the buffers is stated command by command
above. -/
def Obligations.CodecCommandsKeepToTheCodec : Prop :=
  ∀ (i : Instr) (s t : State),
    i ∈ [.csumGen, .verify, .serialize, .deserialize, .encode, .decode, .pktClear] → exec i s = .next t →
    t = { s with
          vok := t.vok, err := t.err, errcode := t.errcode, pktType := t.pktType, pktSeq := t.pktSeq
          pktCsum := t.pktCsum, pktPlen := t.pktPlen, csumCalc := t.csumCalc, flen := t.flen
          pbuf := t.pbuf, fbuf := t.fbuf }

/-! ## Context unit (41_context.md) -/

/-- LC_SET (R141) over the legal transitions of R140, written by their codes (R30): the target state is entered,
`EXP_SEQ` becomes 0 on entry to ESTABLISHED from SYN_SENT or SYN_RCVD (R142) and is kept otherwise; any other pair
reports BAD_TRANSITION; codes 6 and 7 are illegal. -/
def Obligations.LcSetFollowsTheLegalTransitions : Prop :=
  (∀ S : BitVec 3, S.toNat < 6 → decodeCommand ((0 : BitVec 5) ++ S ++ (0x10 : BitVec 8)) = .ok (.lcSet S))
  ∧ (∀ S : BitVec 3, 6 ≤ S.toNat →
      decodeCommand ((0 : BitVec 5) ++ S ++ (0x10 : BitVec 8)) = .error .reservedLifecycleCode)
  ∧ ∀ (s : State) (S : BitVec 3) (target : Lifecycle), lifecycleCode target = S.toNat →
      let cur := lifecycleCode s.lcState
      let legal : Prop := S.toNat = cur ∨
        (cur, S.toNat) ∈ [(0, 1), (1, 3), (1, 0), (0, 2), (2, 3), (3, 4), (4, 0), (4, 3), (3, 5), (5, 0)]
      (legal → S.toNat = 3 → (cur = 1 ∨ cur = 2) →
        exec (.lcSet S) s = .next { s with lcState := target, expSeq := 0x00 })
      ∧ (legal → ¬ (S.toNat = 3 ∧ (cur = 1 ∨ cur = 2)) → exec (.lcSet S) s = .next { s with lcState := target })
      ∧ (¬ legal → exec (.lcSet S) s = .next (raiseError .badTransition s))

/-- CTX_RESET (R144): the context, window, receiver and timer state are cleared, and nothing else changes. -/
def Obligations.CtxResetClearsTheContext : Prop :=
  decodeCommand 0x0011 = .ok .ctxReset
  ∧ ∀ s : State, exec .ctxReset s = .next { s with
      lcState := .closed, expSeq := 0x00, attCnt := 0, attExh := false
      winN := 0, winBase := 0, winCursor := 0, winWs := 1, winFailcnt := 0, winAnchor := 0x00
      winActive := false, winDone := false, winFailed := false
      rxAction := .none, rxAckType := 0xFF, rxAckSeq := 0x00, rxPend := false
      tmrCnt := 0, tmrRun := false, tmrExp := false }

/-- SEQ_RESET (R146) and SEQ_INC (R147): `EXP_SEQ` becomes 0, or counts up modulo 256. -/
def Obligations.SequenceCounterCommands : Prop :=
  decodeCommand 0x0012 = .ok .seqReset ∧ decodeCommand 0x0013 = .ok .seqInc
  ∧ ∀ s : State,
      exec .seqReset s = .next { s with expSeq := 0x00 }
      ∧ exec .seqInc s = .next { s with expSeq := BitVec.ofNat 8 ((s.expSeq.toNat + 1) % 256) }

/-- ATT_CLR (R149) and ATT_INC (R150): the counter saturates at 255 and ATT_EXH says whether the new count
reaches the limit of the phase. -/
def Obligations.AttemptCounterCommands : Prop :=
  decodeCommand 0x0014 = .ok .attClr
  ∧ decodeCommand 0x0015 = .ok (.attInc .connect) ∧ decodeCommand 0x0115 = .ok (.attInc .close)
  ∧ (∀ w : BitVec 16, w.extractLsb' 0 8 = 0x15 → w.extractLsb' 9 7 ≠ 0 →
      decodeCommand w = .error .argumentBits)
  ∧ ∀ s : State,
      let n := min (s.attCnt.toNat + 1) 255
      exec .attClr s = .next { s with attCnt := 0, attExh := false }
      ∧ exec (.attInc .connect) s =
          .next { s with attCnt := BitVec.ofNat 8 n, attExh := decide (s.limConnect.toNat ≤ n) }
      ∧ exec (.attInc .close) s =
          .next { s with attCnt := BitVec.ofNat 8 n, attExh := decide (s.limClose.toNat ≤ n) }

/-- R151: after ATT_CLR and k ≥ 1 failed attempts of one phase, ATT_EXH is 1 exactly if k has reached the
limit. -/
def Obligations.AttemptsExhaustAtTheLimit : Prop :=
  ∀ (s : State) (k : Nat), 1 ≤ k →
    (∃ t, runAll (.attClr :: List.replicate k (.attInc .connect)) s = .next t
      ∧ t = { s with attCnt := t.attCnt, attExh := t.attExh } ∧ t.attCnt.toNat = min k 255
      ∧ (t.attExh = true ↔ s.limConnect.toNat ≤ k))
    ∧ (∃ t, runAll (.attClr :: List.replicate k (.attInc .close)) s = .next t
      ∧ t = { s with attCnt := t.attCnt, attExh := t.attExh } ∧ t.attCnt.toNat = min k 255
      ∧ (t.attExh = true ↔ s.limClose.toNat ≤ k))

/-- R143: the lifecycle state changes only on LC_SET, CTX_RESET, reset, and an RX_COMMIT of a FIN. -/
def Obligations.LifecycleChangesOnlyOnCommand : Prop :=
  ∀ (s t : State) (x : Input) (rest : List Input), s.inputs = x :: rest → step s = .next t →
    t.lcState ≠ s.lcState →
    x = .reset ∨ (∃ S, x.issued = some (.lcSet S)) ∨ x.issued = some .ctxReset
    ∨ (x.issued = some .rxCommit ∧ s.rxAction = .fin)

/-! ## Window unit (42_window.md) -/

/-- WIN_START (R174): a send begins, anchored at `EXP_SEQ`; NOT_ESTABLISHED before BAD_COUNT. -/
def Obligations.WinStartBeginsASend : Prop :=
  decodeCommand 0x0020 = .ok .winStart
  ∧ ∀ s : State,
      (s.lcState = .established → 1 ≤ s.winN.toNat → s.winN.toNat ≤ 256 →
        exec .winStart s = .next { s with
          winAnchor := s.expSeq, winBase := 0, winCursor := 0, winWs := 1, winFailcnt := 0
          winActive := true, winDone := false, winFailed := false })
      ∧ (s.lcState ≠ .established → exec .winStart s = .next (raiseError .notEstablished s))
      ∧ (s.lcState = .established → (s.winN.toNat = 0 ∨ 256 < s.winN.toNat) →
          exec .winStart s = .next (raiseError .badCount s))

/-- WIN_SENT (R176): the cursor advances while a chunk is due; WIN_INACTIVE before NO_SEND_SLOT. -/
def Obligations.WinSentAdvancesTheCursor : Prop :=
  decodeCommand 0x0021 = .ok .winSent
  ∧ ∀ s : State,
      (s.winActive = true → s.winCursor.toNat ≤ s.winTop →
        ∃ t, exec .winSent s = .next t ∧ t = { s with winCursor := t.winCursor }
          ∧ t.winCursor.toNat = s.winCursor.toNat + 1)
      ∧ (s.winActive = false → exec .winSent s = .next (raiseError .winInactive s))
      ∧ (s.winActive = true → s.winTop < s.winCursor.toNat →
          exec .winSent s = .next (raiseError .noSendSlot s))

/-- WIN_ACK (R178, R173): the verification comes first; a verified DATAACK of the base advances the base by one;
at window size 2 one of the top advances it past the top (R180); every other frame is a failure of the wait
(R179). WIN_INACTIVE before OVERSIZE. -/
def Obligations.WinAckJudgesTheFrame : Prop :=
  decodeCommand 0x0022 = .ok .winAck
  ∧ ∀ s : State, s.WindowOk →
      let c := checksum s.params.P s.pktType s.pktSeq s.pbufByte s.pktPlen.toNat
      let b := s.winBase.toNat
      let top := min (b + s.winWs.toNat - 1) (s.winN.toNat - 1)
      let isAck : Prop := s.pktCsum = c ∧ s.pktType = 0x03
      let ofBase : Prop := s.pktSeq.toNat = (s.winAnchor.toNat + b) % 256
      let ofTop : Prop := s.winWs = 2 ∧ s.pktSeq.toNat = (s.winAnchor.toNat + top) % 256
      let advanced : Nat → State := fun b' => { s with
        csumCalc := c, vok := true, winBase := BitVec.ofNat 9 b', winWs := 2, winFailcnt := 0
        winCursor := BitVec.ofNat 9 (max s.winCursor.toNat b')
        expSeq := s.winAnchor + BitVec.ofNat 8 b'
        winActive := decide (b' ≠ s.winN.toNat), winDone := decide (b' = s.winN.toNat) }
      let n := min (s.winFailcnt.toNat + 1) 255
      let failed : State := { s with
        csumCalc := c, vok := decide (s.pktCsum = c), winCursor := s.winBase, winWs := 1
        winFailcnt := BitVec.ofNat 8 n
        winActive := decide (n < s.limData.toNat), winFailed := decide (s.limData.toNat ≤ n) }
      (s.winActive = true → s.pktPlen.toNat ≤ s.params.P → isAck → ofBase →
        exec .winAck s = .next (advanced (b + 1)))
      ∧ (s.winActive = true → s.pktPlen.toNat ≤ s.params.P → isAck → ¬ ofBase → ofTop →
        exec .winAck s = .next (advanced (top + 1)))
      ∧ (s.winActive = true → s.pktPlen.toNat ≤ s.params.P → ¬ (isAck ∧ (ofBase ∨ ofTop)) →
        exec .winAck s = .next failed)
      ∧ (s.winActive = false → exec .winAck s = .next (raiseError .winInactive s))
      ∧ (s.winActive = true → s.params.P < s.pktPlen.toNat → exec .winAck s = .next (raiseError .oversize s))

/-- WIN_FAIL (R181, R173): the cursor returns to the base, the window size drops to 1, the failure is counted,
and at the limit the send fails. -/
def Obligations.WinFailCountsTheFailure : Prop :=
  decodeCommand 0x0023 = .ok .winFail
  ∧ ∀ s : State,
      let n := min (s.winFailcnt.toNat + 1) 255
      (s.winActive = true → n < s.limData.toNat →
        exec .winFail s = .next { s with winCursor := s.winBase, winWs := 1, winFailcnt := BitVec.ofNat 8 n })
      ∧ (s.winActive = true → s.limData.toNat ≤ n →
        exec .winFail s = .next { s with
          winCursor := s.winBase, winWs := 1, winFailcnt := BitVec.ofNat 8 n
          winActive := false, winFailed := true })
      ∧ (s.winActive = false → exec .winFail s = .next (raiseError .winInactive s))

/-- R185: with window size 2 and two outstanding chunks, a verified DATAACK of the top moves the base past both
in one step. -/
def Obligations.CumulativeAckJumpsPastBoth : Prop :=
  ∀ s : State, s.WindowOk → s.winActive = true → s.winWs = 2 → s.winTop = s.winBase.toNat + 1 →
    s.pktPlen.toNat ≤ s.params.P → s.verifies = true → s.pktType = typeDATAACK → s.pktSeq = s.seqw s.winTop →
    ∃ t, exec .winAck s = .next t ∧ t.winBase.toNat = s.winTop + 1 ∧ t.winBase.toNat = s.winBase.toNat + 2
      ∧ t.winWs = 2 ∧ t.winFailcnt = 0

/-- R172: while no agent but the window unit writes `EXP_SEQ` (no SEQ_RESET, SEQ_INC, RX_COMMIT or LC_SET is
issued), every step keeps `EXP_SEQ` at the sequence number of the base during a send. -/
def Obligations.ActiveSendKeepsExpSeqAtTheBase : Prop :=
  ∀ (s t : State), s.BaseAnchored → step s = .next t →
    (∀ x rest, s.inputs = x :: rest →
      x.issued ≠ some .seqReset ∧ x.issued ≠ some .seqInc ∧ x.issued ≠ some .rxCommit
      ∧ ∀ S, x.issued ≠ some (.lcSet S)) →
    t.BaseAnchored

/-- R184: after a WIN_START of N chunks the window unit takes at most N · max(LIM_DATA, 1) outcome reports, along
any inputs but a reset and those that issue WIN_START, CTX_RESET or a write of `LIM_DATA`. -/
def Obligations.SendEndsWithinTheOutcomeBound : Prop :=
  ∀ (s t : State) (xs : List Input),
    s.lcState = .established → 1 ≤ s.winN.toNat → s.winN.toNat ≤ 256 → exec .winStart s = .next t →
    (∀ x ∈ xs, x ≠ .reset ∧ x.issued ≠ some .winStart ∧ x.issued ≠ some .ctxReset
      ∧ ∀ v, x.issued ≠ some (.regWr 0x15 v)) →
    outcomeReports xs t ≤ s.winN.toNat * max s.limData.toNat 1

/-! ## Receiver classifier (43_receiver.md) -/

/-- RX_CLASSIFY (R201) by the half-space comparison of R200: the verdict, the response type and the response
sequence number of each case, the checksum being tested first; NOT_ESTABLISHED before OVERSIZE. -/
def Obligations.RxClassifyGivesTheVerdict : Prop :=
  decodeCommand 0x0028 = .ok .rxClassify
  ∧ ∀ s : State,
      let c := checksum s.params.P s.pktType s.pktSeq s.pbufByte s.pktPlen.toNat
      let d := (s.pktSeq.toNat + 256 - s.expSeq.toNat) % 256
      let classified : RxAction → Byte → Byte → State := fun a at' as' => { s with
        csumCalc := c, vok := decide (s.pktCsum = c)
        rxAction := a, rxAckType := at', rxAckSeq := as', rxPend := true }
      (s.lcState = .established → s.pktPlen.toNat ≤ s.params.P →
        (s.pktCsum ≠ c → exec .rxClassify s = .next (classified .nackCsum 0x03 (s.expSeq - 1)))
        ∧ (s.pktCsum = c → s.pktType = 0x02 → d = 0 →
            exec .rxClassify s = .next (classified .accept 0x03 s.expSeq))
        ∧ (s.pktCsum = c → s.pktType = 0x02 → 128 ≤ d →
            exec .rxClassify s = .next (classified .stale 0x03 s.pktSeq))
        ∧ (s.pktCsum = c → s.pktType = 0x02 → 1 ≤ d → d ≤ 127 →
            exec .rxClassify s = .next (classified .nackGap 0x03 (s.expSeq - 1)))
        ∧ (s.pktCsum = c → s.pktType = 0x00 → exec .rxClassify s = .next (classified .syn 0x01 0x00))
        ∧ (s.pktCsum = c → s.pktType = 0x04 → exec .rxClassify s = .next (classified .fin 0xFF 0x00))
        ∧ (s.pktCsum = c → s.pktType ≠ 0x00 → s.pktType ≠ 0x02 → s.pktType ≠ 0x04 →
            exec .rxClassify s = .next (classified .proto 0xFF 0x00)))
      ∧ (s.lcState ≠ .established → exec .rxClassify s = .next (raiseError .notEstablished s))
      ∧ (s.lcState = .established → s.params.P < s.pktPlen.toNat →
          exec .rxClassify s = .next (raiseError .oversize s))

/-- RX_COMMIT (R205): an ACCEPT advances `EXP_SEQ` to the one after `RX_ACKSEQ`, a FIN enters FIN_RCVD, every
other verdict only clears RX_PEND; NO_PENDING before BAD_TRANSITION. -/
def Obligations.RxCommitAppliesTheVerdict : Prop :=
  decodeCommand 0x0029 = .ok .rxCommit
  ∧ ∀ s : State,
      (s.rxPend = true → s.rxAction = .accept →
        exec .rxCommit s =
          .next { s with expSeq := BitVec.ofNat 8 ((s.rxAckSeq.toNat + 1) % 256), rxPend := false })
      ∧ (s.rxPend = true → s.rxAction = .fin → s.lcState = .established →
        exec .rxCommit s = .next { s with lcState := .finRcvd, rxPend := false })
      ∧ (s.rxPend = true → s.rxAction ≠ .accept → s.rxAction ≠ .fin →
        exec .rxCommit s = .next { s with rxPend := false })
      ∧ (s.rxPend = false → exec .rxCommit s = .next (raiseError .noPending s))
      ∧ (s.rxPend = true → s.rxAction = .fin → s.lcState ≠ .established →
        exec .rxCommit s = .next (raiseError .badTransition s))

/-- R206: along inputs in which only RX_COMMIT writes `EXP_SEQ` (no reset, LC_SET, CTX_RESET, SEQ_RESET, SEQ_INC
or WIN_ACK), the committed ACCEPTs carry e, e + 1, e + 2, … in order, each once. -/
def Obligations.CommittedAcceptsAreInOrder : Prop :=
  ∀ (s : State) (xs : List Input), s.rxPend = false →
    (∀ x ∈ xs, x ≠ .reset ∧ x.issued ≠ some .ctxReset ∧ x.issued ≠ some .seqReset ∧ x.issued ≠ some .seqInc
      ∧ x.issued ≠ some .winAck ∧ ∀ S, x.issued ≠ some (.lcSet S)) →
    committedSeqs xs s =
      (List.range (committedSeqs xs s).length).map (fun k => s.expSeq + BitVec.ofNat 8 k)

/-! ## Timer unit (44_timer.md) -/

/-- TMR_ARM (R220, R221) and TMR_DISARM (R222). -/
def Obligations.TimerCommands : Prop :=
  decodeCommand 0x0030 = .ok .tmrArm ∧ decodeCommand 0x0031 = .ok .tmrDisarm
  ∧ ∀ s : State,
      (s.tmrReload = 0 → exec .tmrArm s = .next { s with tmrCnt := 0, tmrRun := false, tmrExp := true })
      ∧ (s.tmrReload ≠ 0 →
          exec .tmrArm s = .next { s with tmrCnt := s.tmrReload, tmrRun := true, tmrExp := false })
      ∧ exec .tmrDisarm s = .next { s with tmrCnt := 0, tmrRun := false, tmrExp := false }

/-- A tick (R224): a running timer counts down and expires at 0; a timer that does not run is not changed; no
tick writes anything else. That a running timer's count is above 0 is part of the invariant. -/
def Obligations.TickCountsDown : Prop :=
  ∀ (s : State) (rest : List Input), s.inputs = .tick :: rest →
    (s.tmrRun = false → step s = .next { s with inputs := rest })
    ∧ (s.tmrRun = true → 1 < s.tmrCnt.toNat →
        step s = .next { s with tmrCnt := BitVec.ofNat 16 (s.tmrCnt.toNat - 1), inputs := rest })
    ∧ (s.tmrRun = true → s.tmrCnt = 1 →
        step s = .next { s with tmrCnt := 0, tmrRun := false, tmrExp := true, inputs := rest })

/-- R227 and R226: a timer armed with reload value r ≥ 1 expires on exactly the r-th tick, whatever else the
agents do in between but a reset, TMR_ARM, TMR_DISARM or CTX_RESET, and then stays expired. -/
def Obligations.TimerExpiresOnExactlyTheReloadTick : Prop :=
  ∀ (s t : State) (xs : List Input), s.tmrReload ≠ 0 → exec .tmrArm s = .next t →
    (∀ x ∈ xs, x ≠ .reset ∧ x.issued ≠ some .tmrArm ∧ x.issued ≠ some .tmrDisarm
      ∧ x.issued ≠ some .ctxReset) →
    ∃ u, Sys2Proof.core.run xs.length { t with inputs := xs } = .next u
      ∧ (xs.count .tick < s.tmrReload.toNat →
          u.tmrRun = true ∧ u.tmrExp = false ∧ u.tmrCnt.toNat = s.tmrReload.toNat - xs.count .tick)
      ∧ (s.tmrReload.toNat ≤ xs.count .tick → u.tmrRun = false ∧ u.tmrExp = true ∧ u.tmrCnt = 0)
end

