-- ==== Sys2Proof/Laws/Checksum.lean ====
section
/-! SUPPORT. The laws of the checksum's parts: the padded payload, one end-around addition, and the sum of a list
of words. -/

namespace Sys2Proof.Machine

@[simp] theorem padded_length (P : Nat) (buf : Nat → Byte) (n : Nat) : (padded P buf n).length = P := by
  simp [padded]

theorem padded_get (P : Nat) (buf : Nat → Byte) (n i : Nat) (h : i < P) :
    (padded P buf n)[i]? = some (if i < n then buf i else 0x00) := by
  simp [padded, h]

/-- The padded payload depends on the buffer only below the payload length (R101). -/
theorem padded_congr (P : Nat) (buf buf' : Nat → Byte) (n : Nat) (h : ∀ j, j < n → buf j = buf' j) :
    padded P buf n = padded P buf' n := by
  unfold padded
  refine List.map_congr_left (fun i _ => ?_)
  by_cases hi : i < n
  · simp [hi, h i hi]
  · simp [hi]

theorem addEndAround_toNat (a w : Word) :
    (addEndAround a w).toNat = (a.toNat + w.toNat) % 65536 + (a.toNat + w.toNat) / 65536 := by
  have ha := a.isLt
  have hw := w.isLt
  simp only [addEndAround, BitVec.toNat_ofNat]
  omega

/-- Adding with end-around carry is addition modulo 0xFFFF. -/
theorem addEndAround_mod (a w : Word) :
    (addEndAround a w).toNat % 65535 = (a.toNat + w.toNat) % 65535 := by
  rw [addEndAround_toNat]; omega

/-- An end-around sum is 0 only if both parts are. -/
theorem addEndAround_eq_zero (a w : Word) : (addEndAround a w).toNat = 0 ↔ a.toNat = 0 ∧ w.toNat = 0 := by
  rw [addEndAround_toNat]; omega

@[simp] theorem addEndAround_zero_right (a : Word) : addEndAround a 0 = a := by
  apply BitVec.eq_of_toNat_eq
  have ha := a.isLt
  rw [addEndAround_toNat, show (0 : Word).toNat = 0 from rfl]
  omega

theorem foldl_addEndAround_mod (ws : List Word) : ∀ a : Word,
    (ws.foldl addEndAround a).toNat % 65535 = (a.toNat + (ws.map BitVec.toNat).sum) % 65535 := by
  induction ws with
  | nil => intro a; simp
  | cons w ws ih =>
    intro a
    have h := addEndAround_mod a w
    have h2 := ih (addEndAround a w)
    simp only [List.foldl_cons, List.map_cons, List.sum_cons]
    omega

theorem foldl_addEndAround_eq_zero (ws : List Word) : ∀ a : Word,
    (ws.foldl addEndAround a).toNat = 0 ↔ a.toNat = 0 ∧ (ws.map BitVec.toNat).sum = 0 := by
  induction ws with
  | nil => intro a; simp
  | cons w ws ih =>
    intro a
    have h := addEndAround_eq_zero a w
    have h2 := ih (addEndAround a w)
    simp only [List.foldl_cons, List.map_cons, List.sum_cons]
    omega

/-- The ones'-complement sum is the plain sum modulo 0xFFFF. -/
theorem onesSum_mod (ws : List Word) : (onesSum ws).toNat % 65535 = (ws.map BitVec.toNat).sum % 65535 := by
  have := foldl_addEndAround_mod ws 0
  simpa [onesSum] using this

/-- The ones'-complement sum is 0 only if every word is. -/
theorem onesSum_eq_zero (ws : List Word) : (onesSum ws).toNat = 0 ↔ (ws.map BitVec.toNat).sum = 0 := by
  have := foldl_addEndAround_eq_zero ws 0
  simpa [onesSum] using this

/-- Words of zero add nothing to the sum (R102 (a)). -/
theorem onesSum_append_zeros (ws : List Word) (k : Nat) : onesSum (ws ++ List.replicate k 0) = onesSum ws := by
  have h : ∀ (k : Nat) (a : Word), (List.replicate k (0 : Word)).foldl addEndAround a = a := by
    intro k
    induction k with
    | zero => intro a; rfl
    | succ k ih => intro a; rw [List.replicate_succ, List.foldl_cons, addEndAround_zero_right, ih]
  rw [onesSum, List.foldl_append, h, ← onesSum]

/-- Packing goes pair by pair. -/
@[simp] theorem packWords_cons_cons (a b : Byte) (rest : List Byte) :
    packWords (a :: b :: rest) = (a ++ b) :: packWords rest := rfl

end Sys2Proof.Machine
end

