-- ==== Sys2Proof/Laws/Decode.lean ====
section
/-! SUPPORT. The laws of the decoder: the fields of a word made from its fields, and that a command word never
decodes to a host transaction. -/

namespace Sys2Proof

theorem toNat_commandWord (arg op : BitVec 8) : (commandWord arg op).toNat = arg.toNat * 2 ^ 8 + op.toNat := by
  have := op.isLt
  unfold commandWord
  rw [BitVec.toNat_append, ← Nat.shiftLeft_add_eq_or_of_lt (by omega), Nat.shiftLeft_eq]

@[simp] theorem opField_commandWord (arg op : BitVec 8) : opField (commandWord arg op) = op := by
  apply BitVec.eq_of_toNat_eq
  have := arg.isLt
  have := op.isLt
  simp only [opField, BitVec.extractLsb'_toNat, toNat_commandWord, Nat.shiftRight_eq_div_pow]
  omega

@[simp] theorem argField_commandWord (arg op : BitVec 8) : argField (commandWord arg op) = arg := by
  apply BitVec.eq_of_toNat_eq
  have := arg.isLt
  have := op.isLt
  simp only [argField, BitVec.extractLsb'_toNat, toNat_commandWord, Nat.shiftRight_eq_div_pow]
  omega

theorem toNat_transactionWord (kind : BitVec 3) (addr data : BitVec 16) :
    (transactionWord kind addr data).toNat = kind.toNat * 2 ^ 32 + addr.toNat * 2 ^ 16 + data.toNat := by
  have hk := kind.isLt
  have ha := addr.isLt
  have hd := data.isLt
  unfold transactionWord
  rw [BitVec.toNat_append, ← Nat.shiftLeft_add_eq_or_of_lt (by omega), BitVec.toNat_append,
    ← Nat.shiftLeft_add_eq_or_of_lt (by omega), Nat.shiftLeft_eq, Nat.shiftLeft_eq]
  omega

@[simp] theorem kindField_transactionWord (kind : BitVec 3) (addr data : BitVec 16) :
    kindField (transactionWord kind addr data) = kind := by
  apply BitVec.eq_of_toNat_eq
  have hk := kind.isLt
  have ha := addr.isLt
  have hd := data.isLt
  simp only [kindField, BitVec.extractLsb'_toNat, toNat_transactionWord, Nat.shiftRight_eq_div_pow]
  omega

@[simp] theorem addrField_transactionWord (kind : BitVec 3) (addr data : BitVec 16) :
    addrField (transactionWord kind addr data) = addr := by
  apply BitVec.eq_of_toNat_eq
  have hk := kind.isLt
  have ha := addr.isLt
  have hd := data.isLt
  simp only [addrField, BitVec.extractLsb'_toNat, toNat_transactionWord, Nat.shiftRight_eq_div_pow]
  omega

@[simp] theorem dataField_transactionWord (kind : BitVec 3) (addr data : BitVec 16) :
    dataField (transactionWord kind addr data) = data := by
  apply BitVec.eq_of_toNat_eq
  have hk := kind.isLt
  have ha := addr.isLt
  have hd := data.isLt
  simp only [dataField, BitVec.extractLsb'_toNat, toNat_transactionWord, Nat.shiftRight_eq_div_pow]
  omega

/-- The instructions of format C: those a command word may decode to (R85). -/
def Instr.isCommand : Instr → Bool
  | .regRd _ | .regWr _ _ | .pbRd _ | .pbWr _ _ | .fbRd _ | .fbWr _ _ => false
  | _ => true

theorem isCommand_of_plainCommand (op : BitVec 8) (i : Instr) (h : plainCommand op = some i) :
    i.isCommand = true := by
  unfold plainCommand at h
  split at h <;> first | (cases h; rfl) | exact absurd h (by simp)

/-- A command word decodes to a command, never to a host transaction. -/
theorem isCommand_of_decodeCommand (w : BitVec 16) (i : Instr) (h : decodeCommand w = .ok i) :
    i.isCommand = true := by
  unfold decodeCommand at h
  simp only at h
  split at h
  · split at h
    · cases h
    · split at h
      · cases h
      · cases h; rfl
  · split at h
    · split at h
      · cases h
      · cases h; rfl
    · split at h
      · rename_i j hj
        split at h
        · cases h
        · cases h; exact isCommand_of_plainCommand _ _ hj
      · cases h

namespace Machine

/-- Running a command is executing it (R244). -/
theorem runCommand_eq_exec (c : Instr) (s : State) (h : c.isCommand = true) : runCommand c s = exec c s := by
  cases c <;> first | rfl | cases h

/-- A legal command word runs the command it decodes to. -/
theorem executeWord_ok (w : Word) (c : Instr) (s : State) (h : decodeCommand w = .ok c) :
    executeWord w s = exec c s := by
  rw [executeWord, h]; exact runCommand_eq_exec c s (isCommand_of_decodeCommand w c h)

/-- An illegal command word reports ILLEGAL_CMD. -/
theorem executeWord_error (w : Word) (e : Reject) (s : State) (h : decodeCommand w = .error e) :
    executeWord w s = .next (raiseError .illegalCmd s) := by
  rw [executeWord, h]; rfl

/-- A write of `CMD` is the execution of its word. -/
theorem execRegWr_cmd (w : Word) (s : State) : execRegWr 0x0001 w s = executeWord w s := by
  have h : regOfAddress 0x0001 = some .cmd := by decide
  rw [execRegWr, h]; rfl

end Machine

end Sys2Proof
end

