-- ==== Sys2Proof/Laws/State.lean ====
section
/-! SUPPORT. The small lemmas of State: for each named update, what each field is after it. True by rfl; no later
proof unfolds a record update. -/

namespace Sys2Proof.Machine

variable (s : State)

/-! ## raiseError -/

@[simp] theorem raiseError_params (c : ErrCode) : (raiseError c s).params = s.params := rfl
@[simp] theorem raiseError_vok (c : ErrCode) : (raiseError c s).vok = s.vok := rfl
@[simp] theorem raiseError_err (c : ErrCode) : (raiseError c s).err = true := rfl
@[simp] theorem raiseError_tmrRun (c : ErrCode) : (raiseError c s).tmrRun = s.tmrRun := rfl
@[simp] theorem raiseError_tmrExp (c : ErrCode) : (raiseError c s).tmrExp = s.tmrExp := rfl
@[simp] theorem raiseError_winActive (c : ErrCode) : (raiseError c s).winActive = s.winActive := rfl
@[simp] theorem raiseError_winDone (c : ErrCode) : (raiseError c s).winDone = s.winDone := rfl
@[simp] theorem raiseError_winFailed (c : ErrCode) : (raiseError c s).winFailed = s.winFailed := rfl
@[simp] theorem raiseError_attExh (c : ErrCode) : (raiseError c s).attExh = s.attExh := rfl
@[simp] theorem raiseError_rxPend (c : ErrCode) : (raiseError c s).rxPend = s.rxPend := rfl
@[simp] theorem raiseError_errcode (c : ErrCode) : (raiseError c s).errcode = (if s.err then s.errcode else c) := rfl
@[simp] theorem raiseError_ien (c : ErrCode) : (raiseError c s).ien = s.ien := rfl
@[simp] theorem raiseError_pktType (c : ErrCode) : (raiseError c s).pktType = s.pktType := rfl
@[simp] theorem raiseError_pktSeq (c : ErrCode) : (raiseError c s).pktSeq = s.pktSeq := rfl
@[simp] theorem raiseError_pktCsum (c : ErrCode) : (raiseError c s).pktCsum = s.pktCsum := rfl
@[simp] theorem raiseError_pktPlen (c : ErrCode) : (raiseError c s).pktPlen = s.pktPlen := rfl
@[simp] theorem raiseError_csumCalc (c : ErrCode) : (raiseError c s).csumCalc = s.csumCalc := rfl
@[simp] theorem raiseError_flen (c : ErrCode) : (raiseError c s).flen = s.flen := rfl
@[simp] theorem raiseError_lcState (c : ErrCode) : (raiseError c s).lcState = s.lcState := rfl
@[simp] theorem raiseError_expSeq (c : ErrCode) : (raiseError c s).expSeq = s.expSeq := rfl
@[simp] theorem raiseError_attCnt (c : ErrCode) : (raiseError c s).attCnt = s.attCnt := rfl
@[simp] theorem raiseError_limConnect (c : ErrCode) : (raiseError c s).limConnect = s.limConnect := rfl
@[simp] theorem raiseError_limClose (c : ErrCode) : (raiseError c s).limClose = s.limClose := rfl
@[simp] theorem raiseError_limData (c : ErrCode) : (raiseError c s).limData = s.limData := rfl
@[simp] theorem raiseError_rxAction (c : ErrCode) : (raiseError c s).rxAction = s.rxAction := rfl
@[simp] theorem raiseError_rxAckType (c : ErrCode) : (raiseError c s).rxAckType = s.rxAckType := rfl
@[simp] theorem raiseError_rxAckSeq (c : ErrCode) : (raiseError c s).rxAckSeq = s.rxAckSeq := rfl
@[simp] theorem raiseError_winN (c : ErrCode) : (raiseError c s).winN = s.winN := rfl
@[simp] theorem raiseError_winBase (c : ErrCode) : (raiseError c s).winBase = s.winBase := rfl
@[simp] theorem raiseError_winCursor (c : ErrCode) : (raiseError c s).winCursor = s.winCursor := rfl
@[simp] theorem raiseError_winWs (c : ErrCode) : (raiseError c s).winWs = s.winWs := rfl
@[simp] theorem raiseError_winFailcnt (c : ErrCode) : (raiseError c s).winFailcnt = s.winFailcnt := rfl
@[simp] theorem raiseError_winAnchor (c : ErrCode) : (raiseError c s).winAnchor = s.winAnchor := rfl
@[simp] theorem raiseError_tmrReload (c : ErrCode) : (raiseError c s).tmrReload = s.tmrReload := rfl
@[simp] theorem raiseError_tmrCnt (c : ErrCode) : (raiseError c s).tmrCnt = s.tmrCnt := rfl
@[simp] theorem raiseError_pbuf (c : ErrCode) : (raiseError c s).pbuf = s.pbuf := rfl
@[simp] theorem raiseError_fbuf (c : ErrCode) : (raiseError c s).fbuf = s.fbuf := rfl
@[simp] theorem raiseError_resets (c : ErrCode) : (raiseError c s).resets = s.resets := rfl
@[simp] theorem raiseError_reply (c : ErrCode) : (raiseError c s).reply = s.reply := rfl
@[simp] theorem raiseError_inputs (c : ErrCode) : (raiseError c s).inputs = s.inputs := rfl

/-! ## verifyStep -/

@[simp] theorem verifyStep_params : (verifyStep s).params = s.params := rfl
@[simp] theorem verifyStep_vok : (verifyStep s).vok = decide (s.pktCsum = s.packetChecksum) := rfl
@[simp] theorem verifyStep_err : (verifyStep s).err = s.err := rfl
@[simp] theorem verifyStep_tmrRun : (verifyStep s).tmrRun = s.tmrRun := rfl
@[simp] theorem verifyStep_tmrExp : (verifyStep s).tmrExp = s.tmrExp := rfl
@[simp] theorem verifyStep_winActive : (verifyStep s).winActive = s.winActive := rfl
@[simp] theorem verifyStep_winDone : (verifyStep s).winDone = s.winDone := rfl
@[simp] theorem verifyStep_winFailed : (verifyStep s).winFailed = s.winFailed := rfl
@[simp] theorem verifyStep_attExh : (verifyStep s).attExh = s.attExh := rfl
@[simp] theorem verifyStep_rxPend : (verifyStep s).rxPend = s.rxPend := rfl
@[simp] theorem verifyStep_errcode : (verifyStep s).errcode = s.errcode := rfl
@[simp] theorem verifyStep_ien : (verifyStep s).ien = s.ien := rfl
@[simp] theorem verifyStep_pktType : (verifyStep s).pktType = s.pktType := rfl
@[simp] theorem verifyStep_pktSeq : (verifyStep s).pktSeq = s.pktSeq := rfl
@[simp] theorem verifyStep_pktCsum : (verifyStep s).pktCsum = s.pktCsum := rfl
@[simp] theorem verifyStep_pktPlen : (verifyStep s).pktPlen = s.pktPlen := rfl
@[simp] theorem verifyStep_csumCalc : (verifyStep s).csumCalc = s.packetChecksum := rfl
@[simp] theorem verifyStep_flen : (verifyStep s).flen = s.flen := rfl
@[simp] theorem verifyStep_lcState : (verifyStep s).lcState = s.lcState := rfl
@[simp] theorem verifyStep_expSeq : (verifyStep s).expSeq = s.expSeq := rfl
@[simp] theorem verifyStep_attCnt : (verifyStep s).attCnt = s.attCnt := rfl
@[simp] theorem verifyStep_limConnect : (verifyStep s).limConnect = s.limConnect := rfl
@[simp] theorem verifyStep_limClose : (verifyStep s).limClose = s.limClose := rfl
@[simp] theorem verifyStep_limData : (verifyStep s).limData = s.limData := rfl
@[simp] theorem verifyStep_rxAction : (verifyStep s).rxAction = s.rxAction := rfl
@[simp] theorem verifyStep_rxAckType : (verifyStep s).rxAckType = s.rxAckType := rfl
@[simp] theorem verifyStep_rxAckSeq : (verifyStep s).rxAckSeq = s.rxAckSeq := rfl
@[simp] theorem verifyStep_winN : (verifyStep s).winN = s.winN := rfl
@[simp] theorem verifyStep_winBase : (verifyStep s).winBase = s.winBase := rfl
@[simp] theorem verifyStep_winCursor : (verifyStep s).winCursor = s.winCursor := rfl
@[simp] theorem verifyStep_winWs : (verifyStep s).winWs = s.winWs := rfl
@[simp] theorem verifyStep_winFailcnt : (verifyStep s).winFailcnt = s.winFailcnt := rfl
@[simp] theorem verifyStep_winAnchor : (verifyStep s).winAnchor = s.winAnchor := rfl
@[simp] theorem verifyStep_tmrReload : (verifyStep s).tmrReload = s.tmrReload := rfl
@[simp] theorem verifyStep_tmrCnt : (verifyStep s).tmrCnt = s.tmrCnt := rfl
@[simp] theorem verifyStep_pbuf : (verifyStep s).pbuf = s.pbuf := rfl
@[simp] theorem verifyStep_fbuf : (verifyStep s).fbuf = s.fbuf := rfl
@[simp] theorem verifyStep_resets : (verifyStep s).resets = s.resets := rfl
@[simp] theorem verifyStep_reply : (verifyStep s).reply = s.reply := rfl
@[simp] theorem verifyStep_inputs : (verifyStep s).inputs = s.inputs := rfl

/-! ## csumGenBody -/

@[simp] theorem csumGenBody_params : (csumGenBody s).params = s.params := rfl
@[simp] theorem csumGenBody_vok : (csumGenBody s).vok = true := rfl
@[simp] theorem csumGenBody_err : (csumGenBody s).err = s.err := rfl
@[simp] theorem csumGenBody_tmrRun : (csumGenBody s).tmrRun = s.tmrRun := rfl
@[simp] theorem csumGenBody_tmrExp : (csumGenBody s).tmrExp = s.tmrExp := rfl
@[simp] theorem csumGenBody_winActive : (csumGenBody s).winActive = s.winActive := rfl
@[simp] theorem csumGenBody_winDone : (csumGenBody s).winDone = s.winDone := rfl
@[simp] theorem csumGenBody_winFailed : (csumGenBody s).winFailed = s.winFailed := rfl
@[simp] theorem csumGenBody_attExh : (csumGenBody s).attExh = s.attExh := rfl
@[simp] theorem csumGenBody_rxPend : (csumGenBody s).rxPend = s.rxPend := rfl
@[simp] theorem csumGenBody_errcode : (csumGenBody s).errcode = s.errcode := rfl
@[simp] theorem csumGenBody_ien : (csumGenBody s).ien = s.ien := rfl
@[simp] theorem csumGenBody_pktType : (csumGenBody s).pktType = s.pktType := rfl
@[simp] theorem csumGenBody_pktSeq : (csumGenBody s).pktSeq = s.pktSeq := rfl
@[simp] theorem csumGenBody_pktCsum : (csumGenBody s).pktCsum = s.packetChecksum := rfl
@[simp] theorem csumGenBody_pktPlen : (csumGenBody s).pktPlen = s.pktPlen := rfl
@[simp] theorem csumGenBody_csumCalc : (csumGenBody s).csumCalc = s.packetChecksum := rfl
@[simp] theorem csumGenBody_flen : (csumGenBody s).flen = s.flen := rfl
@[simp] theorem csumGenBody_lcState : (csumGenBody s).lcState = s.lcState := rfl
@[simp] theorem csumGenBody_expSeq : (csumGenBody s).expSeq = s.expSeq := rfl
@[simp] theorem csumGenBody_attCnt : (csumGenBody s).attCnt = s.attCnt := rfl
@[simp] theorem csumGenBody_limConnect : (csumGenBody s).limConnect = s.limConnect := rfl
@[simp] theorem csumGenBody_limClose : (csumGenBody s).limClose = s.limClose := rfl
@[simp] theorem csumGenBody_limData : (csumGenBody s).limData = s.limData := rfl
@[simp] theorem csumGenBody_rxAction : (csumGenBody s).rxAction = s.rxAction := rfl
@[simp] theorem csumGenBody_rxAckType : (csumGenBody s).rxAckType = s.rxAckType := rfl
@[simp] theorem csumGenBody_rxAckSeq : (csumGenBody s).rxAckSeq = s.rxAckSeq := rfl
@[simp] theorem csumGenBody_winN : (csumGenBody s).winN = s.winN := rfl
@[simp] theorem csumGenBody_winBase : (csumGenBody s).winBase = s.winBase := rfl
@[simp] theorem csumGenBody_winCursor : (csumGenBody s).winCursor = s.winCursor := rfl
@[simp] theorem csumGenBody_winWs : (csumGenBody s).winWs = s.winWs := rfl
@[simp] theorem csumGenBody_winFailcnt : (csumGenBody s).winFailcnt = s.winFailcnt := rfl
@[simp] theorem csumGenBody_winAnchor : (csumGenBody s).winAnchor = s.winAnchor := rfl
@[simp] theorem csumGenBody_tmrReload : (csumGenBody s).tmrReload = s.tmrReload := rfl
@[simp] theorem csumGenBody_tmrCnt : (csumGenBody s).tmrCnt = s.tmrCnt := rfl
@[simp] theorem csumGenBody_pbuf : (csumGenBody s).pbuf = s.pbuf := rfl
@[simp] theorem csumGenBody_fbuf : (csumGenBody s).fbuf = s.fbuf := rfl
@[simp] theorem csumGenBody_resets : (csumGenBody s).resets = s.resets := rfl
@[simp] theorem csumGenBody_reply : (csumGenBody s).reply = s.reply := rfl
@[simp] theorem csumGenBody_inputs : (csumGenBody s).inputs = s.inputs := rfl

/-! ## serializeBody -/

@[simp] theorem serializeBody_params : (serializeBody s).params = s.params := rfl
@[simp] theorem serializeBody_vok : (serializeBody s).vok = s.vok := rfl
@[simp] theorem serializeBody_err : (serializeBody s).err = s.err := rfl
@[simp] theorem serializeBody_tmrRun : (serializeBody s).tmrRun = s.tmrRun := rfl
@[simp] theorem serializeBody_tmrExp : (serializeBody s).tmrExp = s.tmrExp := rfl
@[simp] theorem serializeBody_winActive : (serializeBody s).winActive = s.winActive := rfl
@[simp] theorem serializeBody_winDone : (serializeBody s).winDone = s.winDone := rfl
@[simp] theorem serializeBody_winFailed : (serializeBody s).winFailed = s.winFailed := rfl
@[simp] theorem serializeBody_attExh : (serializeBody s).attExh = s.attExh := rfl
@[simp] theorem serializeBody_rxPend : (serializeBody s).rxPend = s.rxPend := rfl
@[simp] theorem serializeBody_errcode : (serializeBody s).errcode = s.errcode := rfl
@[simp] theorem serializeBody_ien : (serializeBody s).ien = s.ien := rfl
@[simp] theorem serializeBody_pktType : (serializeBody s).pktType = s.pktType := rfl
@[simp] theorem serializeBody_pktSeq : (serializeBody s).pktSeq = s.pktSeq := rfl
@[simp] theorem serializeBody_pktCsum : (serializeBody s).pktCsum = s.pktCsum := rfl
@[simp] theorem serializeBody_pktPlen : (serializeBody s).pktPlen = s.pktPlen := rfl
@[simp] theorem serializeBody_csumCalc : (serializeBody s).csumCalc = s.csumCalc := rfl
@[simp] theorem serializeBody_flen : (serializeBody s).flen = BitVec.ofNat 16 (4 + s.pktPlen.toNat) := rfl
@[simp] theorem serializeBody_lcState : (serializeBody s).lcState = s.lcState := rfl
@[simp] theorem serializeBody_expSeq : (serializeBody s).expSeq = s.expSeq := rfl
@[simp] theorem serializeBody_attCnt : (serializeBody s).attCnt = s.attCnt := rfl
@[simp] theorem serializeBody_limConnect : (serializeBody s).limConnect = s.limConnect := rfl
@[simp] theorem serializeBody_limClose : (serializeBody s).limClose = s.limClose := rfl
@[simp] theorem serializeBody_limData : (serializeBody s).limData = s.limData := rfl
@[simp] theorem serializeBody_rxAction : (serializeBody s).rxAction = s.rxAction := rfl
@[simp] theorem serializeBody_rxAckType : (serializeBody s).rxAckType = s.rxAckType := rfl
@[simp] theorem serializeBody_rxAckSeq : (serializeBody s).rxAckSeq = s.rxAckSeq := rfl
@[simp] theorem serializeBody_winN : (serializeBody s).winN = s.winN := rfl
@[simp] theorem serializeBody_winBase : (serializeBody s).winBase = s.winBase := rfl
@[simp] theorem serializeBody_winCursor : (serializeBody s).winCursor = s.winCursor := rfl
@[simp] theorem serializeBody_winWs : (serializeBody s).winWs = s.winWs := rfl
@[simp] theorem serializeBody_winFailcnt : (serializeBody s).winFailcnt = s.winFailcnt := rfl
@[simp] theorem serializeBody_winAnchor : (serializeBody s).winAnchor = s.winAnchor := rfl
@[simp] theorem serializeBody_tmrReload : (serializeBody s).tmrReload = s.tmrReload := rfl
@[simp] theorem serializeBody_tmrCnt : (serializeBody s).tmrCnt = s.tmrCnt := rfl
@[simp] theorem serializeBody_pbuf : (serializeBody s).pbuf = s.pbuf := rfl
@[simp] theorem serializeBody_fbuf : (serializeBody s).fbuf = s.fbuf.store 0 s.frameImage := rfl
@[simp] theorem serializeBody_resets : (serializeBody s).resets = s.resets := rfl
@[simp] theorem serializeBody_reply : (serializeBody s).reply = s.reply := rfl
@[simp] theorem serializeBody_inputs : (serializeBody s).inputs = s.inputs := rfl

/-! ## deserializeBody -/

@[simp] theorem deserializeBody_params : (deserializeBody s).params = s.params := rfl
@[simp] theorem deserializeBody_vok : (deserializeBody s).vok = false := rfl
@[simp] theorem deserializeBody_err : (deserializeBody s).err = s.err := rfl
@[simp] theorem deserializeBody_tmrRun : (deserializeBody s).tmrRun = s.tmrRun := rfl
@[simp] theorem deserializeBody_tmrExp : (deserializeBody s).tmrExp = s.tmrExp := rfl
@[simp] theorem deserializeBody_winActive : (deserializeBody s).winActive = s.winActive := rfl
@[simp] theorem deserializeBody_winDone : (deserializeBody s).winDone = s.winDone := rfl
@[simp] theorem deserializeBody_winFailed : (deserializeBody s).winFailed = s.winFailed := rfl
@[simp] theorem deserializeBody_attExh : (deserializeBody s).attExh = s.attExh := rfl
@[simp] theorem deserializeBody_rxPend : (deserializeBody s).rxPend = s.rxPend := rfl
@[simp] theorem deserializeBody_errcode : (deserializeBody s).errcode = s.errcode := rfl
@[simp] theorem deserializeBody_ien : (deserializeBody s).ien = s.ien := rfl
@[simp] theorem deserializeBody_pktType : (deserializeBody s).pktType = s.fbufByte 0 := rfl
@[simp] theorem deserializeBody_pktSeq : (deserializeBody s).pktSeq = s.fbufByte 1 := rfl
@[simp] theorem deserializeBody_pktCsum : (deserializeBody s).pktCsum = s.fbufByte 2 ++ s.fbufByte 3 := rfl
@[simp] theorem deserializeBody_pktPlen : (deserializeBody s).pktPlen = BitVec.ofNat 16 (s.flen.toNat - 4) := rfl
@[simp] theorem deserializeBody_csumCalc : (deserializeBody s).csumCalc = s.csumCalc := rfl
@[simp] theorem deserializeBody_flen : (deserializeBody s).flen = s.flen := rfl
@[simp] theorem deserializeBody_lcState : (deserializeBody s).lcState = s.lcState := rfl
@[simp] theorem deserializeBody_expSeq : (deserializeBody s).expSeq = s.expSeq := rfl
@[simp] theorem deserializeBody_attCnt : (deserializeBody s).attCnt = s.attCnt := rfl
@[simp] theorem deserializeBody_limConnect : (deserializeBody s).limConnect = s.limConnect := rfl
@[simp] theorem deserializeBody_limClose : (deserializeBody s).limClose = s.limClose := rfl
@[simp] theorem deserializeBody_limData : (deserializeBody s).limData = s.limData := rfl
@[simp] theorem deserializeBody_rxAction : (deserializeBody s).rxAction = s.rxAction := rfl
@[simp] theorem deserializeBody_rxAckType : (deserializeBody s).rxAckType = s.rxAckType := rfl
@[simp] theorem deserializeBody_rxAckSeq : (deserializeBody s).rxAckSeq = s.rxAckSeq := rfl
@[simp] theorem deserializeBody_winN : (deserializeBody s).winN = s.winN := rfl
@[simp] theorem deserializeBody_winBase : (deserializeBody s).winBase = s.winBase := rfl
@[simp] theorem deserializeBody_winCursor : (deserializeBody s).winCursor = s.winCursor := rfl
@[simp] theorem deserializeBody_winWs : (deserializeBody s).winWs = s.winWs := rfl
@[simp] theorem deserializeBody_winFailcnt : (deserializeBody s).winFailcnt = s.winFailcnt := rfl
@[simp] theorem deserializeBody_winAnchor : (deserializeBody s).winAnchor = s.winAnchor := rfl
@[simp] theorem deserializeBody_tmrReload : (deserializeBody s).tmrReload = s.tmrReload := rfl
@[simp] theorem deserializeBody_tmrCnt : (deserializeBody s).tmrCnt = s.tmrCnt := rfl
@[simp] theorem deserializeBody_pbuf : (deserializeBody s).pbuf = s.pbuf.store 0 s.payloadImage := rfl
@[simp] theorem deserializeBody_fbuf : (deserializeBody s).fbuf = s.fbuf := rfl
@[simp] theorem deserializeBody_resets : (deserializeBody s).resets = s.resets := rfl
@[simp] theorem deserializeBody_reply : (deserializeBody s).reply = s.reply := rfl
@[simp] theorem deserializeBody_inputs : (deserializeBody s).inputs = s.inputs := rfl

/-! ## enterLifecycle -/

@[simp] theorem enterLifecycle_params (S : Lifecycle) : (enterLifecycle S s).params = s.params := rfl
@[simp] theorem enterLifecycle_vok (S : Lifecycle) : (enterLifecycle S s).vok = s.vok := rfl
@[simp] theorem enterLifecycle_err (S : Lifecycle) : (enterLifecycle S s).err = s.err := rfl
@[simp] theorem enterLifecycle_tmrRun (S : Lifecycle) : (enterLifecycle S s).tmrRun = s.tmrRun := rfl
@[simp] theorem enterLifecycle_tmrExp (S : Lifecycle) : (enterLifecycle S s).tmrExp = s.tmrExp := rfl
@[simp] theorem enterLifecycle_winActive (S : Lifecycle) : (enterLifecycle S s).winActive = s.winActive := rfl
@[simp] theorem enterLifecycle_winDone (S : Lifecycle) : (enterLifecycle S s).winDone = s.winDone := rfl
@[simp] theorem enterLifecycle_winFailed (S : Lifecycle) : (enterLifecycle S s).winFailed = s.winFailed := rfl
@[simp] theorem enterLifecycle_attExh (S : Lifecycle) : (enterLifecycle S s).attExh = s.attExh := rfl
@[simp] theorem enterLifecycle_rxPend (S : Lifecycle) : (enterLifecycle S s).rxPend = s.rxPend := rfl
@[simp] theorem enterLifecycle_errcode (S : Lifecycle) : (enterLifecycle S s).errcode = s.errcode := rfl
@[simp] theorem enterLifecycle_ien (S : Lifecycle) : (enterLifecycle S s).ien = s.ien := rfl
@[simp] theorem enterLifecycle_pktType (S : Lifecycle) : (enterLifecycle S s).pktType = s.pktType := rfl
@[simp] theorem enterLifecycle_pktSeq (S : Lifecycle) : (enterLifecycle S s).pktSeq = s.pktSeq := rfl
@[simp] theorem enterLifecycle_pktCsum (S : Lifecycle) : (enterLifecycle S s).pktCsum = s.pktCsum := rfl
@[simp] theorem enterLifecycle_pktPlen (S : Lifecycle) : (enterLifecycle S s).pktPlen = s.pktPlen := rfl
@[simp] theorem enterLifecycle_csumCalc (S : Lifecycle) : (enterLifecycle S s).csumCalc = s.csumCalc := rfl
@[simp] theorem enterLifecycle_flen (S : Lifecycle) : (enterLifecycle S s).flen = s.flen := rfl
@[simp] theorem enterLifecycle_lcState (S : Lifecycle) : (enterLifecycle S s).lcState = S := rfl
@[simp] theorem enterLifecycle_expSeq (S : Lifecycle) : (enterLifecycle S s).expSeq = (if S = .established ∧ (s.lcState = .synSent ∨ s.lcState = .synRcvd) then 0x00 else s.expSeq) := rfl
@[simp] theorem enterLifecycle_attCnt (S : Lifecycle) : (enterLifecycle S s).attCnt = s.attCnt := rfl
@[simp] theorem enterLifecycle_limConnect (S : Lifecycle) : (enterLifecycle S s).limConnect = s.limConnect := rfl
@[simp] theorem enterLifecycle_limClose (S : Lifecycle) : (enterLifecycle S s).limClose = s.limClose := rfl
@[simp] theorem enterLifecycle_limData (S : Lifecycle) : (enterLifecycle S s).limData = s.limData := rfl
@[simp] theorem enterLifecycle_rxAction (S : Lifecycle) : (enterLifecycle S s).rxAction = s.rxAction := rfl
@[simp] theorem enterLifecycle_rxAckType (S : Lifecycle) : (enterLifecycle S s).rxAckType = s.rxAckType := rfl
@[simp] theorem enterLifecycle_rxAckSeq (S : Lifecycle) : (enterLifecycle S s).rxAckSeq = s.rxAckSeq := rfl
@[simp] theorem enterLifecycle_winN (S : Lifecycle) : (enterLifecycle S s).winN = s.winN := rfl
@[simp] theorem enterLifecycle_winBase (S : Lifecycle) : (enterLifecycle S s).winBase = s.winBase := rfl
@[simp] theorem enterLifecycle_winCursor (S : Lifecycle) : (enterLifecycle S s).winCursor = s.winCursor := rfl
@[simp] theorem enterLifecycle_winWs (S : Lifecycle) : (enterLifecycle S s).winWs = s.winWs := rfl
@[simp] theorem enterLifecycle_winFailcnt (S : Lifecycle) : (enterLifecycle S s).winFailcnt = s.winFailcnt := rfl
@[simp] theorem enterLifecycle_winAnchor (S : Lifecycle) : (enterLifecycle S s).winAnchor = s.winAnchor := rfl
@[simp] theorem enterLifecycle_tmrReload (S : Lifecycle) : (enterLifecycle S s).tmrReload = s.tmrReload := rfl
@[simp] theorem enterLifecycle_tmrCnt (S : Lifecycle) : (enterLifecycle S s).tmrCnt = s.tmrCnt := rfl
@[simp] theorem enterLifecycle_pbuf (S : Lifecycle) : (enterLifecycle S s).pbuf = s.pbuf := rfl
@[simp] theorem enterLifecycle_fbuf (S : Lifecycle) : (enterLifecycle S s).fbuf = s.fbuf := rfl
@[simp] theorem enterLifecycle_resets (S : Lifecycle) : (enterLifecycle S s).resets = s.resets := rfl
@[simp] theorem enterLifecycle_reply (S : Lifecycle) : (enterLifecycle S s).reply = s.reply := rfl
@[simp] theorem enterLifecycle_inputs (S : Lifecycle) : (enterLifecycle S s).inputs = s.inputs := rfl

/-! ## advanceTo -/

@[simp] theorem advanceTo_params (b : Nat) : (advanceTo b s).params = s.params := rfl
@[simp] theorem advanceTo_vok (b : Nat) : (advanceTo b s).vok = s.vok := rfl
@[simp] theorem advanceTo_err (b : Nat) : (advanceTo b s).err = s.err := rfl
@[simp] theorem advanceTo_tmrRun (b : Nat) : (advanceTo b s).tmrRun = s.tmrRun := rfl
@[simp] theorem advanceTo_tmrExp (b : Nat) : (advanceTo b s).tmrExp = s.tmrExp := rfl
@[simp] theorem advanceTo_winActive (b : Nat) : (advanceTo b s).winActive = (if b = s.winN.toNat then false else s.winActive) := rfl
@[simp] theorem advanceTo_winDone (b : Nat) : (advanceTo b s).winDone = (if b = s.winN.toNat then true else s.winDone) := rfl
@[simp] theorem advanceTo_winFailed (b : Nat) : (advanceTo b s).winFailed = s.winFailed := rfl
@[simp] theorem advanceTo_attExh (b : Nat) : (advanceTo b s).attExh = s.attExh := rfl
@[simp] theorem advanceTo_rxPend (b : Nat) : (advanceTo b s).rxPend = s.rxPend := rfl
@[simp] theorem advanceTo_errcode (b : Nat) : (advanceTo b s).errcode = s.errcode := rfl
@[simp] theorem advanceTo_ien (b : Nat) : (advanceTo b s).ien = s.ien := rfl
@[simp] theorem advanceTo_pktType (b : Nat) : (advanceTo b s).pktType = s.pktType := rfl
@[simp] theorem advanceTo_pktSeq (b : Nat) : (advanceTo b s).pktSeq = s.pktSeq := rfl
@[simp] theorem advanceTo_pktCsum (b : Nat) : (advanceTo b s).pktCsum = s.pktCsum := rfl
@[simp] theorem advanceTo_pktPlen (b : Nat) : (advanceTo b s).pktPlen = s.pktPlen := rfl
@[simp] theorem advanceTo_csumCalc (b : Nat) : (advanceTo b s).csumCalc = s.csumCalc := rfl
@[simp] theorem advanceTo_flen (b : Nat) : (advanceTo b s).flen = s.flen := rfl
@[simp] theorem advanceTo_lcState (b : Nat) : (advanceTo b s).lcState = s.lcState := rfl
@[simp] theorem advanceTo_expSeq (b : Nat) : (advanceTo b s).expSeq = s.seqw b := rfl
@[simp] theorem advanceTo_attCnt (b : Nat) : (advanceTo b s).attCnt = s.attCnt := rfl
@[simp] theorem advanceTo_limConnect (b : Nat) : (advanceTo b s).limConnect = s.limConnect := rfl
@[simp] theorem advanceTo_limClose (b : Nat) : (advanceTo b s).limClose = s.limClose := rfl
@[simp] theorem advanceTo_limData (b : Nat) : (advanceTo b s).limData = s.limData := rfl
@[simp] theorem advanceTo_rxAction (b : Nat) : (advanceTo b s).rxAction = s.rxAction := rfl
@[simp] theorem advanceTo_rxAckType (b : Nat) : (advanceTo b s).rxAckType = s.rxAckType := rfl
@[simp] theorem advanceTo_rxAckSeq (b : Nat) : (advanceTo b s).rxAckSeq = s.rxAckSeq := rfl
@[simp] theorem advanceTo_winN (b : Nat) : (advanceTo b s).winN = s.winN := rfl
@[simp] theorem advanceTo_winBase (b : Nat) : (advanceTo b s).winBase = BitVec.ofNat 9 b := rfl
@[simp] theorem advanceTo_winCursor (b : Nat) : (advanceTo b s).winCursor = BitVec.ofNat 9 (max s.winCursor.toNat b) := rfl
@[simp] theorem advanceTo_winWs (b : Nat) : (advanceTo b s).winWs = 2 := rfl
@[simp] theorem advanceTo_winFailcnt (b : Nat) : (advanceTo b s).winFailcnt = 0 := rfl
@[simp] theorem advanceTo_winAnchor (b : Nat) : (advanceTo b s).winAnchor = s.winAnchor := rfl
@[simp] theorem advanceTo_tmrReload (b : Nat) : (advanceTo b s).tmrReload = s.tmrReload := rfl
@[simp] theorem advanceTo_tmrCnt (b : Nat) : (advanceTo b s).tmrCnt = s.tmrCnt := rfl
@[simp] theorem advanceTo_pbuf (b : Nat) : (advanceTo b s).pbuf = s.pbuf := rfl
@[simp] theorem advanceTo_fbuf (b : Nat) : (advanceTo b s).fbuf = s.fbuf := rfl
@[simp] theorem advanceTo_resets (b : Nat) : (advanceTo b s).resets = s.resets := rfl
@[simp] theorem advanceTo_reply (b : Nat) : (advanceTo b s).reply = s.reply := rfl
@[simp] theorem advanceTo_inputs (b : Nat) : (advanceTo b s).inputs = s.inputs := rfl

/-! ## failWait -/

@[simp] theorem failWait_params : (failWait s).params = s.params := rfl
@[simp] theorem failWait_vok : (failWait s).vok = s.vok := rfl
@[simp] theorem failWait_err : (failWait s).err = s.err := rfl
@[simp] theorem failWait_tmrRun : (failWait s).tmrRun = s.tmrRun := rfl
@[simp] theorem failWait_tmrExp : (failWait s).tmrExp = s.tmrExp := rfl
@[simp] theorem failWait_winActive : (failWait s).winActive = (if s.limData.toNat ≤ (saturatingInc s.winFailcnt).toNat then false else s.winActive) := rfl
@[simp] theorem failWait_winDone : (failWait s).winDone = s.winDone := rfl
@[simp] theorem failWait_winFailed : (failWait s).winFailed = (if s.limData.toNat ≤ (saturatingInc s.winFailcnt).toNat then true else s.winFailed) := rfl
@[simp] theorem failWait_attExh : (failWait s).attExh = s.attExh := rfl
@[simp] theorem failWait_rxPend : (failWait s).rxPend = s.rxPend := rfl
@[simp] theorem failWait_errcode : (failWait s).errcode = s.errcode := rfl
@[simp] theorem failWait_ien : (failWait s).ien = s.ien := rfl
@[simp] theorem failWait_pktType : (failWait s).pktType = s.pktType := rfl
@[simp] theorem failWait_pktSeq : (failWait s).pktSeq = s.pktSeq := rfl
@[simp] theorem failWait_pktCsum : (failWait s).pktCsum = s.pktCsum := rfl
@[simp] theorem failWait_pktPlen : (failWait s).pktPlen = s.pktPlen := rfl
@[simp] theorem failWait_csumCalc : (failWait s).csumCalc = s.csumCalc := rfl
@[simp] theorem failWait_flen : (failWait s).flen = s.flen := rfl
@[simp] theorem failWait_lcState : (failWait s).lcState = s.lcState := rfl
@[simp] theorem failWait_expSeq : (failWait s).expSeq = s.expSeq := rfl
@[simp] theorem failWait_attCnt : (failWait s).attCnt = s.attCnt := rfl
@[simp] theorem failWait_limConnect : (failWait s).limConnect = s.limConnect := rfl
@[simp] theorem failWait_limClose : (failWait s).limClose = s.limClose := rfl
@[simp] theorem failWait_limData : (failWait s).limData = s.limData := rfl
@[simp] theorem failWait_rxAction : (failWait s).rxAction = s.rxAction := rfl
@[simp] theorem failWait_rxAckType : (failWait s).rxAckType = s.rxAckType := rfl
@[simp] theorem failWait_rxAckSeq : (failWait s).rxAckSeq = s.rxAckSeq := rfl
@[simp] theorem failWait_winN : (failWait s).winN = s.winN := rfl
@[simp] theorem failWait_winBase : (failWait s).winBase = s.winBase := rfl
@[simp] theorem failWait_winCursor : (failWait s).winCursor = s.winBase := rfl
@[simp] theorem failWait_winWs : (failWait s).winWs = 1 := rfl
@[simp] theorem failWait_winFailcnt : (failWait s).winFailcnt = saturatingInc s.winFailcnt := rfl
@[simp] theorem failWait_winAnchor : (failWait s).winAnchor = s.winAnchor := rfl
@[simp] theorem failWait_tmrReload : (failWait s).tmrReload = s.tmrReload := rfl
@[simp] theorem failWait_tmrCnt : (failWait s).tmrCnt = s.tmrCnt := rfl
@[simp] theorem failWait_pbuf : (failWait s).pbuf = s.pbuf := rfl
@[simp] theorem failWait_fbuf : (failWait s).fbuf = s.fbuf := rfl
@[simp] theorem failWait_resets : (failWait s).resets = s.resets := rfl
@[simp] theorem failWait_reply : (failWait s).reply = s.reply := rfl
@[simp] theorem failWait_inputs : (failWait s).inputs = s.inputs := rfl

/-! ## recordVerdict -/

@[simp] theorem recordVerdict_params (v : Verdict) : (recordVerdict v s).params = s.params := rfl
@[simp] theorem recordVerdict_vok (v : Verdict) : (recordVerdict v s).vok = s.vok := rfl
@[simp] theorem recordVerdict_err (v : Verdict) : (recordVerdict v s).err = s.err := rfl
@[simp] theorem recordVerdict_tmrRun (v : Verdict) : (recordVerdict v s).tmrRun = s.tmrRun := rfl
@[simp] theorem recordVerdict_tmrExp (v : Verdict) : (recordVerdict v s).tmrExp = s.tmrExp := rfl
@[simp] theorem recordVerdict_winActive (v : Verdict) : (recordVerdict v s).winActive = s.winActive := rfl
@[simp] theorem recordVerdict_winDone (v : Verdict) : (recordVerdict v s).winDone = s.winDone := rfl
@[simp] theorem recordVerdict_winFailed (v : Verdict) : (recordVerdict v s).winFailed = s.winFailed := rfl
@[simp] theorem recordVerdict_attExh (v : Verdict) : (recordVerdict v s).attExh = s.attExh := rfl
@[simp] theorem recordVerdict_rxPend (v : Verdict) : (recordVerdict v s).rxPend = true := rfl
@[simp] theorem recordVerdict_errcode (v : Verdict) : (recordVerdict v s).errcode = s.errcode := rfl
@[simp] theorem recordVerdict_ien (v : Verdict) : (recordVerdict v s).ien = s.ien := rfl
@[simp] theorem recordVerdict_pktType (v : Verdict) : (recordVerdict v s).pktType = s.pktType := rfl
@[simp] theorem recordVerdict_pktSeq (v : Verdict) : (recordVerdict v s).pktSeq = s.pktSeq := rfl
@[simp] theorem recordVerdict_pktCsum (v : Verdict) : (recordVerdict v s).pktCsum = s.pktCsum := rfl
@[simp] theorem recordVerdict_pktPlen (v : Verdict) : (recordVerdict v s).pktPlen = s.pktPlen := rfl
@[simp] theorem recordVerdict_csumCalc (v : Verdict) : (recordVerdict v s).csumCalc = s.csumCalc := rfl
@[simp] theorem recordVerdict_flen (v : Verdict) : (recordVerdict v s).flen = s.flen := rfl
@[simp] theorem recordVerdict_lcState (v : Verdict) : (recordVerdict v s).lcState = s.lcState := rfl
@[simp] theorem recordVerdict_expSeq (v : Verdict) : (recordVerdict v s).expSeq = s.expSeq := rfl
@[simp] theorem recordVerdict_attCnt (v : Verdict) : (recordVerdict v s).attCnt = s.attCnt := rfl
@[simp] theorem recordVerdict_limConnect (v : Verdict) : (recordVerdict v s).limConnect = s.limConnect := rfl
@[simp] theorem recordVerdict_limClose (v : Verdict) : (recordVerdict v s).limClose = s.limClose := rfl
@[simp] theorem recordVerdict_limData (v : Verdict) : (recordVerdict v s).limData = s.limData := rfl
@[simp] theorem recordVerdict_rxAction (v : Verdict) : (recordVerdict v s).rxAction = v.action := rfl
@[simp] theorem recordVerdict_rxAckType (v : Verdict) : (recordVerdict v s).rxAckType = v.ackType := rfl
@[simp] theorem recordVerdict_rxAckSeq (v : Verdict) : (recordVerdict v s).rxAckSeq = v.ackSeq := rfl
@[simp] theorem recordVerdict_winN (v : Verdict) : (recordVerdict v s).winN = s.winN := rfl
@[simp] theorem recordVerdict_winBase (v : Verdict) : (recordVerdict v s).winBase = s.winBase := rfl
@[simp] theorem recordVerdict_winCursor (v : Verdict) : (recordVerdict v s).winCursor = s.winCursor := rfl
@[simp] theorem recordVerdict_winWs (v : Verdict) : (recordVerdict v s).winWs = s.winWs := rfl
@[simp] theorem recordVerdict_winFailcnt (v : Verdict) : (recordVerdict v s).winFailcnt = s.winFailcnt := rfl
@[simp] theorem recordVerdict_winAnchor (v : Verdict) : (recordVerdict v s).winAnchor = s.winAnchor := rfl
@[simp] theorem recordVerdict_tmrReload (v : Verdict) : (recordVerdict v s).tmrReload = s.tmrReload := rfl
@[simp] theorem recordVerdict_tmrCnt (v : Verdict) : (recordVerdict v s).tmrCnt = s.tmrCnt := rfl
@[simp] theorem recordVerdict_pbuf (v : Verdict) : (recordVerdict v s).pbuf = s.pbuf := rfl
@[simp] theorem recordVerdict_fbuf (v : Verdict) : (recordVerdict v s).fbuf = s.fbuf := rfl
@[simp] theorem recordVerdict_resets (v : Verdict) : (recordVerdict v s).resets = s.resets := rfl
@[simp] theorem recordVerdict_reply (v : Verdict) : (recordVerdict v s).reply = s.reply := rfl
@[simp] theorem recordVerdict_inputs (v : Verdict) : (recordVerdict v s).inputs = s.inputs := rfl

/-! ## beginTransaction -/

@[simp] theorem beginTransaction_params (r : List Input) : (beginTransaction r s).params = s.params := rfl
@[simp] theorem beginTransaction_vok (r : List Input) : (beginTransaction r s).vok = s.vok := rfl
@[simp] theorem beginTransaction_err (r : List Input) : (beginTransaction r s).err = s.err := rfl
@[simp] theorem beginTransaction_tmrRun (r : List Input) : (beginTransaction r s).tmrRun = s.tmrRun := rfl
@[simp] theorem beginTransaction_tmrExp (r : List Input) : (beginTransaction r s).tmrExp = s.tmrExp := rfl
@[simp] theorem beginTransaction_winActive (r : List Input) : (beginTransaction r s).winActive = s.winActive := rfl
@[simp] theorem beginTransaction_winDone (r : List Input) : (beginTransaction r s).winDone = s.winDone := rfl
@[simp] theorem beginTransaction_winFailed (r : List Input) : (beginTransaction r s).winFailed = s.winFailed := rfl
@[simp] theorem beginTransaction_attExh (r : List Input) : (beginTransaction r s).attExh = s.attExh := rfl
@[simp] theorem beginTransaction_rxPend (r : List Input) : (beginTransaction r s).rxPend = s.rxPend := rfl
@[simp] theorem beginTransaction_errcode (r : List Input) : (beginTransaction r s).errcode = s.errcode := rfl
@[simp] theorem beginTransaction_ien (r : List Input) : (beginTransaction r s).ien = s.ien := rfl
@[simp] theorem beginTransaction_pktType (r : List Input) : (beginTransaction r s).pktType = s.pktType := rfl
@[simp] theorem beginTransaction_pktSeq (r : List Input) : (beginTransaction r s).pktSeq = s.pktSeq := rfl
@[simp] theorem beginTransaction_pktCsum (r : List Input) : (beginTransaction r s).pktCsum = s.pktCsum := rfl
@[simp] theorem beginTransaction_pktPlen (r : List Input) : (beginTransaction r s).pktPlen = s.pktPlen := rfl
@[simp] theorem beginTransaction_csumCalc (r : List Input) : (beginTransaction r s).csumCalc = s.csumCalc := rfl
@[simp] theorem beginTransaction_flen (r : List Input) : (beginTransaction r s).flen = s.flen := rfl
@[simp] theorem beginTransaction_lcState (r : List Input) : (beginTransaction r s).lcState = s.lcState := rfl
@[simp] theorem beginTransaction_expSeq (r : List Input) : (beginTransaction r s).expSeq = s.expSeq := rfl
@[simp] theorem beginTransaction_attCnt (r : List Input) : (beginTransaction r s).attCnt = s.attCnt := rfl
@[simp] theorem beginTransaction_limConnect (r : List Input) : (beginTransaction r s).limConnect = s.limConnect := rfl
@[simp] theorem beginTransaction_limClose (r : List Input) : (beginTransaction r s).limClose = s.limClose := rfl
@[simp] theorem beginTransaction_limData (r : List Input) : (beginTransaction r s).limData = s.limData := rfl
@[simp] theorem beginTransaction_rxAction (r : List Input) : (beginTransaction r s).rxAction = s.rxAction := rfl
@[simp] theorem beginTransaction_rxAckType (r : List Input) : (beginTransaction r s).rxAckType = s.rxAckType := rfl
@[simp] theorem beginTransaction_rxAckSeq (r : List Input) : (beginTransaction r s).rxAckSeq = s.rxAckSeq := rfl
@[simp] theorem beginTransaction_winN (r : List Input) : (beginTransaction r s).winN = s.winN := rfl
@[simp] theorem beginTransaction_winBase (r : List Input) : (beginTransaction r s).winBase = s.winBase := rfl
@[simp] theorem beginTransaction_winCursor (r : List Input) : (beginTransaction r s).winCursor = s.winCursor := rfl
@[simp] theorem beginTransaction_winWs (r : List Input) : (beginTransaction r s).winWs = s.winWs := rfl
@[simp] theorem beginTransaction_winFailcnt (r : List Input) : (beginTransaction r s).winFailcnt = s.winFailcnt := rfl
@[simp] theorem beginTransaction_winAnchor (r : List Input) : (beginTransaction r s).winAnchor = s.winAnchor := rfl
@[simp] theorem beginTransaction_tmrReload (r : List Input) : (beginTransaction r s).tmrReload = s.tmrReload := rfl
@[simp] theorem beginTransaction_tmrCnt (r : List Input) : (beginTransaction r s).tmrCnt = s.tmrCnt := rfl
@[simp] theorem beginTransaction_pbuf (r : List Input) : (beginTransaction r s).pbuf = s.pbuf := rfl
@[simp] theorem beginTransaction_fbuf (r : List Input) : (beginTransaction r s).fbuf = s.fbuf := rfl
@[simp] theorem beginTransaction_resets (r : List Input) : (beginTransaction r s).resets = s.resets := rfl
@[simp] theorem beginTransaction_reply (r : List Input) : (beginTransaction r s).reply = none := rfl
@[simp] theorem beginTransaction_inputs (r : List Input) : (beginTransaction r s).inputs = r := rfl

/-! ## takeInput -/

@[simp] theorem takeInput_params (r : List Input) : (takeInput r s).params = s.params := rfl
@[simp] theorem takeInput_vok (r : List Input) : (takeInput r s).vok = s.vok := rfl
@[simp] theorem takeInput_err (r : List Input) : (takeInput r s).err = s.err := rfl
@[simp] theorem takeInput_tmrRun (r : List Input) : (takeInput r s).tmrRun = s.tmrRun := rfl
@[simp] theorem takeInput_tmrExp (r : List Input) : (takeInput r s).tmrExp = s.tmrExp := rfl
@[simp] theorem takeInput_winActive (r : List Input) : (takeInput r s).winActive = s.winActive := rfl
@[simp] theorem takeInput_winDone (r : List Input) : (takeInput r s).winDone = s.winDone := rfl
@[simp] theorem takeInput_winFailed (r : List Input) : (takeInput r s).winFailed = s.winFailed := rfl
@[simp] theorem takeInput_attExh (r : List Input) : (takeInput r s).attExh = s.attExh := rfl
@[simp] theorem takeInput_rxPend (r : List Input) : (takeInput r s).rxPend = s.rxPend := rfl
@[simp] theorem takeInput_errcode (r : List Input) : (takeInput r s).errcode = s.errcode := rfl
@[simp] theorem takeInput_ien (r : List Input) : (takeInput r s).ien = s.ien := rfl
@[simp] theorem takeInput_pktType (r : List Input) : (takeInput r s).pktType = s.pktType := rfl
@[simp] theorem takeInput_pktSeq (r : List Input) : (takeInput r s).pktSeq = s.pktSeq := rfl
@[simp] theorem takeInput_pktCsum (r : List Input) : (takeInput r s).pktCsum = s.pktCsum := rfl
@[simp] theorem takeInput_pktPlen (r : List Input) : (takeInput r s).pktPlen = s.pktPlen := rfl
@[simp] theorem takeInput_csumCalc (r : List Input) : (takeInput r s).csumCalc = s.csumCalc := rfl
@[simp] theorem takeInput_flen (r : List Input) : (takeInput r s).flen = s.flen := rfl
@[simp] theorem takeInput_lcState (r : List Input) : (takeInput r s).lcState = s.lcState := rfl
@[simp] theorem takeInput_expSeq (r : List Input) : (takeInput r s).expSeq = s.expSeq := rfl
@[simp] theorem takeInput_attCnt (r : List Input) : (takeInput r s).attCnt = s.attCnt := rfl
@[simp] theorem takeInput_limConnect (r : List Input) : (takeInput r s).limConnect = s.limConnect := rfl
@[simp] theorem takeInput_limClose (r : List Input) : (takeInput r s).limClose = s.limClose := rfl
@[simp] theorem takeInput_limData (r : List Input) : (takeInput r s).limData = s.limData := rfl
@[simp] theorem takeInput_rxAction (r : List Input) : (takeInput r s).rxAction = s.rxAction := rfl
@[simp] theorem takeInput_rxAckType (r : List Input) : (takeInput r s).rxAckType = s.rxAckType := rfl
@[simp] theorem takeInput_rxAckSeq (r : List Input) : (takeInput r s).rxAckSeq = s.rxAckSeq := rfl
@[simp] theorem takeInput_winN (r : List Input) : (takeInput r s).winN = s.winN := rfl
@[simp] theorem takeInput_winBase (r : List Input) : (takeInput r s).winBase = s.winBase := rfl
@[simp] theorem takeInput_winCursor (r : List Input) : (takeInput r s).winCursor = s.winCursor := rfl
@[simp] theorem takeInput_winWs (r : List Input) : (takeInput r s).winWs = s.winWs := rfl
@[simp] theorem takeInput_winFailcnt (r : List Input) : (takeInput r s).winFailcnt = s.winFailcnt := rfl
@[simp] theorem takeInput_winAnchor (r : List Input) : (takeInput r s).winAnchor = s.winAnchor := rfl
@[simp] theorem takeInput_tmrReload (r : List Input) : (takeInput r s).tmrReload = s.tmrReload := rfl
@[simp] theorem takeInput_tmrCnt (r : List Input) : (takeInput r s).tmrCnt = s.tmrCnt := rfl
@[simp] theorem takeInput_pbuf (r : List Input) : (takeInput r s).pbuf = s.pbuf := rfl
@[simp] theorem takeInput_fbuf (r : List Input) : (takeInput r s).fbuf = s.fbuf := rfl
@[simp] theorem takeInput_resets (r : List Input) : (takeInput r s).resets = s.resets := rfl
@[simp] theorem takeInput_reply (r : List Input) : (takeInput r s).reply = s.reply := rfl
@[simp] theorem takeInput_inputs (r : List Input) : (takeInput r s).inputs = r := rfl

/-! ## hostWriteReg: the fields no register write reaches -/

@[simp] theorem hostWriteReg_params (r : Reg) (v : Word) : (hostWriteReg r v s).params = s.params := by
  cases r <;> rfl
@[simp] theorem hostWriteReg_err (r : Reg) (v : Word) : (hostWriteReg r v s).err = s.err := by
  cases r <;> rfl
@[simp] theorem hostWriteReg_tmrRun (r : Reg) (v : Word) : (hostWriteReg r v s).tmrRun = s.tmrRun := by
  cases r <;> rfl
@[simp] theorem hostWriteReg_tmrExp (r : Reg) (v : Word) : (hostWriteReg r v s).tmrExp = s.tmrExp := by
  cases r <;> rfl
@[simp] theorem hostWriteReg_winActive (r : Reg) (v : Word) : (hostWriteReg r v s).winActive = s.winActive := by
  cases r <;> rfl
@[simp] theorem hostWriteReg_winDone (r : Reg) (v : Word) : (hostWriteReg r v s).winDone = s.winDone := by
  cases r <;> rfl
@[simp] theorem hostWriteReg_winFailed (r : Reg) (v : Word) : (hostWriteReg r v s).winFailed = s.winFailed := by
  cases r <;> rfl
@[simp] theorem hostWriteReg_attExh (r : Reg) (v : Word) : (hostWriteReg r v s).attExh = s.attExh := by
  cases r <;> rfl
@[simp] theorem hostWriteReg_rxPend (r : Reg) (v : Word) : (hostWriteReg r v s).rxPend = s.rxPend := by
  cases r <;> rfl
@[simp] theorem hostWriteReg_errcode (r : Reg) (v : Word) : (hostWriteReg r v s).errcode = s.errcode := by
  cases r <;> rfl
@[simp] theorem hostWriteReg_csumCalc (r : Reg) (v : Word) : (hostWriteReg r v s).csumCalc = s.csumCalc := by
  cases r <;> rfl
@[simp] theorem hostWriteReg_lcState (r : Reg) (v : Word) : (hostWriteReg r v s).lcState = s.lcState := by
  cases r <;> rfl
@[simp] theorem hostWriteReg_expSeq (r : Reg) (v : Word) : (hostWriteReg r v s).expSeq = s.expSeq := by
  cases r <;> rfl
@[simp] theorem hostWriteReg_attCnt (r : Reg) (v : Word) : (hostWriteReg r v s).attCnt = s.attCnt := by
  cases r <;> rfl
@[simp] theorem hostWriteReg_rxAction (r : Reg) (v : Word) : (hostWriteReg r v s).rxAction = s.rxAction := by
  cases r <;> rfl
@[simp] theorem hostWriteReg_rxAckType (r : Reg) (v : Word) : (hostWriteReg r v s).rxAckType = s.rxAckType := by
  cases r <;> rfl
@[simp] theorem hostWriteReg_rxAckSeq (r : Reg) (v : Word) : (hostWriteReg r v s).rxAckSeq = s.rxAckSeq := by
  cases r <;> rfl
@[simp] theorem hostWriteReg_winBase (r : Reg) (v : Word) : (hostWriteReg r v s).winBase = s.winBase := by
  cases r <;> rfl
@[simp] theorem hostWriteReg_winCursor (r : Reg) (v : Word) : (hostWriteReg r v s).winCursor = s.winCursor := by
  cases r <;> rfl
@[simp] theorem hostWriteReg_winWs (r : Reg) (v : Word) : (hostWriteReg r v s).winWs = s.winWs := by
  cases r <;> rfl
@[simp] theorem hostWriteReg_winFailcnt (r : Reg) (v : Word) : (hostWriteReg r v s).winFailcnt = s.winFailcnt := by
  cases r <;> rfl
@[simp] theorem hostWriteReg_winAnchor (r : Reg) (v : Word) : (hostWriteReg r v s).winAnchor = s.winAnchor := by
  cases r <;> rfl
@[simp] theorem hostWriteReg_tmrCnt (r : Reg) (v : Word) : (hostWriteReg r v s).tmrCnt = s.tmrCnt := by
  cases r <;> rfl
@[simp] theorem hostWriteReg_pbuf (r : Reg) (v : Word) : (hostWriteReg r v s).pbuf = s.pbuf := by
  cases r <;> rfl
@[simp] theorem hostWriteReg_fbuf (r : Reg) (v : Word) : (hostWriteReg r v s).fbuf = s.fbuf := by
  cases r <;> rfl
@[simp] theorem hostWriteReg_resets (r : Reg) (v : Word) : (hostWriteReg r v s).resets = s.resets := by
  cases r <;> rfl
@[simp] theorem hostWriteReg_reply (r : Reg) (v : Word) : (hostWriteReg r v s).reply = s.reply := by
  cases r <;> rfl
@[simp] theorem hostWriteReg_inputs (r : Reg) (v : Word) : (hostWriteReg r v s).inputs = s.inputs := by
  cases r <;> rfl

/-! ## timerTick: the fields no tick reaches (R224) -/

@[simp] theorem timerTick_params : (timerTick s).params = s.params := by
  unfold timerTick; split <;> rfl
@[simp] theorem timerTick_vok : (timerTick s).vok = s.vok := by
  unfold timerTick; split <;> rfl
@[simp] theorem timerTick_err : (timerTick s).err = s.err := by
  unfold timerTick; split <;> rfl
@[simp] theorem timerTick_winActive : (timerTick s).winActive = s.winActive := by
  unfold timerTick; split <;> rfl
@[simp] theorem timerTick_winDone : (timerTick s).winDone = s.winDone := by
  unfold timerTick; split <;> rfl
@[simp] theorem timerTick_winFailed : (timerTick s).winFailed = s.winFailed := by
  unfold timerTick; split <;> rfl
@[simp] theorem timerTick_attExh : (timerTick s).attExh = s.attExh := by
  unfold timerTick; split <;> rfl
@[simp] theorem timerTick_rxPend : (timerTick s).rxPend = s.rxPend := by
  unfold timerTick; split <;> rfl
@[simp] theorem timerTick_errcode : (timerTick s).errcode = s.errcode := by
  unfold timerTick; split <;> rfl
@[simp] theorem timerTick_ien : (timerTick s).ien = s.ien := by
  unfold timerTick; split <;> rfl
@[simp] theorem timerTick_pktType : (timerTick s).pktType = s.pktType := by
  unfold timerTick; split <;> rfl
@[simp] theorem timerTick_pktSeq : (timerTick s).pktSeq = s.pktSeq := by
  unfold timerTick; split <;> rfl
@[simp] theorem timerTick_pktCsum : (timerTick s).pktCsum = s.pktCsum := by
  unfold timerTick; split <;> rfl
@[simp] theorem timerTick_pktPlen : (timerTick s).pktPlen = s.pktPlen := by
  unfold timerTick; split <;> rfl
@[simp] theorem timerTick_csumCalc : (timerTick s).csumCalc = s.csumCalc := by
  unfold timerTick; split <;> rfl
@[simp] theorem timerTick_flen : (timerTick s).flen = s.flen := by
  unfold timerTick; split <;> rfl
@[simp] theorem timerTick_lcState : (timerTick s).lcState = s.lcState := by
  unfold timerTick; split <;> rfl
@[simp] theorem timerTick_expSeq : (timerTick s).expSeq = s.expSeq := by
  unfold timerTick; split <;> rfl
@[simp] theorem timerTick_attCnt : (timerTick s).attCnt = s.attCnt := by
  unfold timerTick; split <;> rfl
@[simp] theorem timerTick_limConnect : (timerTick s).limConnect = s.limConnect := by
  unfold timerTick; split <;> rfl
@[simp] theorem timerTick_limClose : (timerTick s).limClose = s.limClose := by
  unfold timerTick; split <;> rfl
@[simp] theorem timerTick_limData : (timerTick s).limData = s.limData := by
  unfold timerTick; split <;> rfl
@[simp] theorem timerTick_rxAction : (timerTick s).rxAction = s.rxAction := by
  unfold timerTick; split <;> rfl
@[simp] theorem timerTick_rxAckType : (timerTick s).rxAckType = s.rxAckType := by
  unfold timerTick; split <;> rfl
@[simp] theorem timerTick_rxAckSeq : (timerTick s).rxAckSeq = s.rxAckSeq := by
  unfold timerTick; split <;> rfl
@[simp] theorem timerTick_winN : (timerTick s).winN = s.winN := by
  unfold timerTick; split <;> rfl
@[simp] theorem timerTick_winBase : (timerTick s).winBase = s.winBase := by
  unfold timerTick; split <;> rfl
@[simp] theorem timerTick_winCursor : (timerTick s).winCursor = s.winCursor := by
  unfold timerTick; split <;> rfl
@[simp] theorem timerTick_winWs : (timerTick s).winWs = s.winWs := by
  unfold timerTick; split <;> rfl
@[simp] theorem timerTick_winFailcnt : (timerTick s).winFailcnt = s.winFailcnt := by
  unfold timerTick; split <;> rfl
@[simp] theorem timerTick_winAnchor : (timerTick s).winAnchor = s.winAnchor := by
  unfold timerTick; split <;> rfl
@[simp] theorem timerTick_tmrReload : (timerTick s).tmrReload = s.tmrReload := by
  unfold timerTick; split <;> rfl
@[simp] theorem timerTick_pbuf : (timerTick s).pbuf = s.pbuf := by
  unfold timerTick; split <;> rfl
@[simp] theorem timerTick_fbuf : (timerTick s).fbuf = s.fbuf := by
  unfold timerTick; split <;> rfl
@[simp] theorem timerTick_resets : (timerTick s).resets = s.resets := by
  unfold timerTick; split <;> rfl
@[simp] theorem timerTick_reply : (timerTick s).reply = s.reply := by
  unfold timerTick; split <;> rfl
@[simp] theorem timerTick_inputs : (timerTick s).inputs = s.inputs := by
  unfold timerTick; split <;> rfl

end Sys2Proof.Machine
end

