-- ==== Sys2Proof/Laws/Memory.lean ====
section
/-! SUPPORT. The laws of the buffers: what a byte reads after a store, and that a store keeps the canonical form
and the range. -/

namespace Sys2Proof.Machine

theorem Memory.get?_append (m m' : Memory) (i : Nat) :
    Memory.get? (m ++ m') i = (Memory.get? m i).or (Memory.get? m' i) := by
  induction m with
  | nil => simp [Memory.get?]
  | cons c m ih =>
    obtain ⟨k, b⟩ := c
    by_cases h : k = i <;> simp [Memory.get?, h, ih]

theorem Memory.get?_filter (m : Memory) (p : Nat → Bool) (i : Nat) :
    Memory.get? (m.filter (fun c => p c.1)) i = if p i then Memory.get? m i else none := by
  induction m with
  | nil => simp [Memory.get?]
  | cons c m ih =>
    obtain ⟨k, b⟩ := c
    by_cases hp : p k
    · by_cases h : k = i
      · subst h; simp [Memory.get?, hp]
      · simp [Memory.get?, hp, h, ih]
    · by_cases h : k = i
      · subst h; simp [hp, ih]
      · simp [Memory.get?, hp, h, ih]

theorem Memory.get?_cellsFrom (bytes : List Byte) : ∀ a i : Nat,
    Memory.get? (Memory.cellsFrom a bytes) i = if a ≤ i then bytes[i - a]? else none := by
  induction bytes with
  | nil => simp [Memory.cellsFrom, Memory.get?]
  | cons b rest ih =>
    intro a i
    by_cases h : a = i
    · subst h; simp [Memory.cellsFrom, Memory.get?]
    · rw [Memory.cellsFrom, Memory.get?, if_neg h, ih]
      by_cases h2 : a + 1 ≤ i
      · have e : i - a = (i - (a + 1)) + 1 := by omega
        rw [if_pos h2, if_pos (by omega), e, List.getElem?_cons_succ]
      · rw [if_neg h2, if_neg (by omega)]

/-- A read after a store: the byte stored where the store reaches, what was there elsewhere. -/
theorem Memory.get?_store (m : Memory) (a : Nat) (bytes : List Byte) (i : Nat) :
    (m.store a bytes).get? i = if a ≤ i ∧ i < a + bytes.length then bytes[i - a]? else m.get? i := by
  unfold Memory.store
  rw [Memory.get?_append, Memory.get?_append, Memory.get?_filter m (fun k => decide (k < a)),
    Memory.get?_filter m (fun k => decide (a + bytes.length ≤ k)), Memory.get?_cellsFrom]
  by_cases h1 : i < a
  · simp [h1, Nat.not_le.mpr h1, show ¬ a + bytes.length ≤ i by omega]
  · by_cases h2 : i < a + bytes.length
    · have h3 : i - a < bytes.length := by omega
      simp [h1, Nat.not_lt.mp h1, h2, List.getElem?_eq_getElem h3]
    · have h3 : bytes.length ≤ i - a := by omega
      simp [h1, Nat.not_lt.mp h1, h2, Nat.not_lt.mp h2, List.getElem?_eq_none h3]

theorem Memory.get?_store_of_lt (m : Memory) (a : Nat) (bytes : List Byte) (i : Nat) (h : a ≤ i)
    (h' : i - a < bytes.length) : (m.store a bytes).get? i = some bytes[i - a] := by
  rw [Memory.get?_store, if_pos ⟨h, by omega⟩, List.getElem?_eq_getElem h']

/-- A store of one byte. -/
theorem Memory.get?_store_byte (m : Memory) (a : Nat) (b : Byte) (i : Nat) :
    (m.store a [b]).get? i = if i = a then some b else m.get? i := by
  rw [Memory.get?_store]
  by_cases h : i = a
  · subst h; simp
  · rw [if_neg h, if_neg (by simp; omega)]

/-- The cells a store lays lie from its first index up, below its end. -/
theorem Memory.mem_cellsFrom (bytes : List Byte) : ∀ (a : Nat) (c : Host.Cell),
    c ∈ Memory.cellsFrom a bytes → a ≤ c.1 ∧ c.1 < a + bytes.length := by
  induction bytes with
  | nil => simp [Memory.cellsFrom]
  | cons b rest ih =>
    intro a c hc
    rw [Memory.cellsFrom, List.mem_cons] at hc
    rcases hc with rfl | hc
    · simp
    · have := ih (a + 1) c hc; simp only [List.length_cons]; omega

theorem Memory.cellsFrom_wf (bytes : List Byte) : ∀ a : Nat, (Memory.cellsFrom a bytes).wf := by
  induction bytes with
  | nil => intro a; exact List.Pairwise.nil
  | cons b rest ih =>
    intro a
    refine List.Pairwise.cons (fun c hc => ?_) (ih (a + 1))
    have := Memory.mem_cellsFrom rest (a + 1) c hc
    show a < c.1
    omega

/-- A store keeps the canonical form. -/
theorem Memory.store_wf (m : Memory) (a : Nat) (bytes : List Byte) (h : m.wf) : (m.store a bytes).wf := by
  unfold Memory.store
  refine List.pairwise_append.mpr ⟨List.pairwise_append.mpr
    ⟨List.Pairwise.filter _ h, Memory.cellsFrom_wf bytes a, ?_⟩, List.Pairwise.filter _ h, ?_⟩
  · intro x hx y hy
    have h1 := (List.mem_filter.mp hx).2
    have h2 := Memory.mem_cellsFrom bytes a y hy
    simp only [decide_eq_true_eq] at h1
    omega
  · intro x hx y hy
    have h2 := (List.mem_filter.mp hy).2
    simp only [decide_eq_true_eq] at h2
    rcases List.mem_append.mp hx with hx | hx
    · have h1 := (List.mem_filter.mp hx).2
      simp only [decide_eq_true_eq] at h1
      omega
    · have h1 := Memory.mem_cellsFrom bytes a x hx
      omega

/-- A store that ends below a bound keeps a buffer below it. -/
theorem Memory.store_below (m : Memory) (a : Nat) (bytes : List Byte) (n : Nat) (h : m.below n)
    (hn : a + bytes.length ≤ n) : (m.store a bytes).below n := by
  intro c hc
  unfold Memory.store at hc
  rcases List.mem_append.mp hc with hc | hc
  · rcases List.mem_append.mp hc with hc | hc
    · exact h c (List.mem_filter.mp hc).1
    · have := Memory.mem_cellsFrom bytes a c hc; omega
  · exact h c (List.mem_filter.mp hc).1

/-- The memory right after reset is canonical. -/
theorem reset_buffers_wf : State.reset.pbuf.wf ∧ State.reset.fbuf.wf :=
  ⟨List.Pairwise.nil, List.Pairwise.nil⟩

/-! ## The images SERIALIZE, DESERIALIZE and PKT_CLEAR store -/

theorem frameImage_length (s : State) (h : s.pktPlen.toNat ≤ s.params.P) :
    s.frameImage.length = s.params.P + 4 := by
  simp [State.frameImage]; omega

theorem payloadImage_length (s : State) (h : s.flen.toNat ≤ s.params.P + 4) :
    s.payloadImage.length = s.params.P := by
  simp [State.payloadImage]; omega

/-- What `frameImage` holds past the header. -/
theorem frameImage_payload (s : State) (i : Nat) (h : i < s.params.P) (hn : s.pktPlen.toNat ≤ s.params.P) :
    s.frameImage[4 + i]? = some (if i < s.pktPlen.toNat then s.pbufByte i else 0x00) := by
  unfold State.frameImage
  by_cases h1 : i < s.pktPlen.toNat
  · rw [List.getElem?_append_left (by simp; omega), List.getElem?_append_right (by simp)]
    simp [h1]
  · rw [List.getElem?_append_right (by simp; omega), List.getElem?_replicate, if_pos (by simp; omega)]
    simp [h1]

/-- What `payloadImage` holds. -/
theorem payloadImage_get (s : State) (i : Nat) (h : i < s.params.P) :
    s.payloadImage[i]? = some (if i < s.flen.toNat - 4 then s.fbufByte (4 + i) else 0x00) := by
  unfold State.payloadImage
  by_cases h1 : i < s.flen.toNat - 4
  · rw [List.getElem?_append_left (by simpa using h1)]
    simp [h1]
  · rw [List.getElem?_append_right (by simpa using h1), List.getElem?_replicate, if_pos (by simp; omega)]
    simp [h1]

end Sys2Proof.Machine
end

