-- ==== Sys2Proof/Laws/Ops.lean ====
section
/-! SUPPORT. What each shared operation and each meaning can do, said once: if it answers a next state, that state
is one of these. -/

namespace Sys2Proof.Machine

/-! ## Error reports and answers -/

@[simp] theorem refuseWith_eq_next (code : ErrCode) (s t : State) :
    refuseWith code s = .next t ↔ t = raiseError code s := by
  constructor
  · intro h; cases h; rfl
  · rintro rfl; rfl

@[simp] theorem refuseRead_eq_next (code : ErrCode) (s t : State) :
    refuseRead code s = .next t ↔ t = { raiseError code s with reply := some 0 } := by
  constructor
  · intro h; cases h; rfl
  · rintro rfl; rfl

@[simp] theorem answer_eq_next (v : Word) (s t : State) :
    answer v s = .next t ↔ t = { s with reply := some v } := by
  constructor
  · intro h; cases h; rfl
  · rintro rfl; rfl

/-! ## Counters -/

theorem saturatingInc_toNat (x : Byte) : (saturatingInc x).toNat = min (x.toNat + 1) 255 := by
  have := x.isLt
  simp only [saturatingInc, BitVec.toNat_ofNat]
  omega

/-! ## The packet register set -/

theorem payloadTooLong_eq_true (s : State) :
    s.payloadTooLong = true ↔ s.params.P < s.pktPlen.toNat := by simp [State.payloadTooLong]

theorem payloadTooLong_eq_false (s : State) :
    s.payloadTooLong = false ↔ s.pktPlen.toNat ≤ s.params.P := by simp [State.payloadTooLong]

theorem verifies_iff (s : State) :
    s.verifies = true ↔ s.pktPlen.toNat ≤ s.params.P ∧ s.pktCsum = s.packetChecksum := by
  simp [State.verifies, State.payloadTooLong]

/-- The checksum of the packet does not depend on what is not in the packet register set. -/
theorem packetChecksum_congr (s t : State) (hp : t.params = s.params) (h1 : t.pktType = s.pktType)
    (h2 : t.pktSeq = s.pktSeq) (h3 : t.pktPlen = s.pktPlen) (h4 : t.pbuf = s.pbuf) (h5 : t.resets = s.resets) :
    t.packetChecksum = s.packetChecksum := by
  have h6 : t.pbufByte = s.pbufByte := by funext i; simp [State.pbufByte, h4, h5]
  simp [State.packetChecksum, hp, h1, h2, h3, h6]

/-- After a verification the packet's checksum is the one recorded (R104). -/
@[simp] theorem verifyStep_packetChecksum (s : State) : (verifyStep s).packetChecksum = s.packetChecksum := rfl

@[simp] theorem verifyStep_payloadTooLong (s : State) : (verifyStep s).payloadTooLong = s.payloadTooLong := rfl

/-! ## The window -/

/-- What a received frame can do to the window (R178): the three outcomes of the wait. -/
theorem judgeAck_cases (s : State) :
    (s.vok = true ∧ s.pktType = typeDATAACK ∧ s.pktSeq = s.seqw s.winBase.toNat
        ∧ judgeAck s = advanceTo (s.winBase.toNat + 1) s)
    ∨ (s.vok = true ∧ s.pktType = typeDATAACK ∧ s.pktSeq ≠ s.seqw s.winBase.toNat ∧ s.winWs = 2
        ∧ s.pktSeq = s.seqw s.winTop ∧ judgeAck s = advanceTo (s.winTop + 1) s)
    ∨ judgeAck s = failWait s := by
  unfold judgeAck
  by_cases h1 : s.vok = true ∧ s.pktType = typeDATAACK ∧ s.pktSeq = s.seqw s.winBase.toNat
  · exact .inl ⟨h1.1, h1.2.1, h1.2.2, if_pos h1⟩
  · rw [if_neg h1]
    by_cases h2 : s.vok = true ∧ s.pktType = typeDATAACK ∧ s.winWs = 2 ∧ s.pktSeq = s.seqw s.winTop
    · refine .inr (.inl ⟨h2.1, h2.2.1, fun h => h1 ⟨h2.1, h2.2.1, h⟩, h2.2.2.1, h2.2.2.2, if_pos h2⟩)
    · exact .inr (.inr (if_neg h2))

/-- The top is the last index of the window while its size is 1 or 2 and there is a chunk (R51). -/
theorem winTop_of_pos (s : State) (h : s.winN.toNat ≠ 0) :
    s.winTop = min (s.winBase.toNat + s.winWs.toNat - 1) (s.winN.toNat - 1) := if_neg h

theorem winTop_lt (s : State) : s.winTop < 511 := by
  have := s.winN.isLt
  unfold State.winTop
  split <;> omega

/-! ## The timer -/

/-- What a tick can do (R224). -/
theorem timerTick_cases (s : State) :
    (s.tmrRun = false ∧ timerTick s = s)
    ∨ (s.tmrRun = true ∧ s.tmrCnt - 1 ≠ 0 ∧ timerTick s = { s with tmrCnt := s.tmrCnt - 1, tmrRun := true })
    ∨ (s.tmrRun = true ∧ s.tmrCnt - 1 = 0
        ∧ timerTick s = { s with tmrCnt := 0, tmrRun := false, tmrExp := true }) := by
  cases hr : s.tmrRun with
  | false => exact .inl ⟨rfl, by simp [timerTick, hr]⟩
  | true =>
    by_cases hc : s.tmrCnt - 1#16 = 0#16
    · exact .inr (.inr ⟨rfl, hc, by simp [timerTick, hr, hc]⟩)
    · exact .inr (.inl ⟨rfl, hc, by simp [timerTick, hr, hc]⟩)

/-! ## The meanings -/

theorem execCsumGen_next (s t : State) (h : execCsumGen s = .next t) :
    (s.payloadTooLong = true ∧ t = raiseError .oversize s)
    ∨ (s.payloadTooLong = false ∧ t = csumGenBody s) := by
  unfold execCsumGen at h; split at h <;> simp_all

theorem execVerify_next (s t : State) (h : execVerify s = .next t) :
    (s.payloadTooLong = true ∧ t = raiseError .oversize s)
    ∨ (s.payloadTooLong = false ∧ t = verifyStep s) := by
  unfold execVerify at h; split at h <;> simp_all

theorem execSerialize_next (s t : State) (h : execSerialize s = .next t) :
    (s.payloadTooLong = true ∧ t = raiseError .oversize s)
    ∨ (s.payloadTooLong = false ∧ t = serializeBody s) := by
  unfold execSerialize at h; split at h <;> simp_all

theorem execEncode_next (s t : State) (h : execEncode s = .next t) :
    (s.payloadTooLong = true ∧ t = raiseError .oversize s)
    ∨ (s.payloadTooLong = false ∧ t = serializeBody (csumGenBody s)) := by
  unfold execEncode at h; split at h <;> simp_all

theorem execDeserialize_next (s t : State) (h : execDeserialize s = .next t) :
    (s.flen.toNat < 4 ∧ t = raiseError .framing s)
    ∨ (s.params.P + 4 < s.flen.toNat ∧ t = raiseError .oversize s)
    ∨ (4 ≤ s.flen.toNat ∧ s.flen.toNat ≤ s.params.P + 4 ∧ t = deserializeBody s) := by
  unfold execDeserialize at h
  split at h
  · simp_all
  · split at h <;> simp_all

theorem execDecode_next (s t : State) (h : execDecode s = .next t) :
    (s.flen.toNat < 4 ∧ t = raiseError .framing s)
    ∨ (s.params.P + 4 < s.flen.toNat ∧ t = raiseError .oversize s)
    ∨ (4 ≤ s.flen.toNat ∧ s.flen.toNat ≤ s.params.P + 4 ∧ t = verifyStep (deserializeBody s)) := by
  unfold execDecode at h
  split at h
  · simp_all
  · split at h <;> simp_all

theorem execLcSet_next (S : BitVec 3) (s t : State) (h : execLcSet S s = .next t) :
    (lifecycleOfCode S = none ∧ t = raiseError .illegalCmd s)
    ∨ ∃ target, lifecycleOfCode S = some target
      ∧ ((legalTransition s.lcState target = true ∧ t = enterLifecycle target s)
        ∨ (legalTransition s.lcState target = false ∧ t = raiseError .badTransition s)) := by
  unfold execLcSet at h
  cases hS : lifecycleOfCode S with
  | none => rw [hS] at h; exact .inl ⟨rfl, by simpa using h⟩
  | some target =>
    rw [hS] at h
    simp only at h
    refine .inr ⟨target, rfl, ?_⟩
    split at h <;> simp_all

theorem execWinStart_next (s t : State) (h : execWinStart s = .next t) :
    (s.lcState ≠ .established ∧ t = raiseError .notEstablished s)
    ∨ ((s.winN.toNat < 1 ∨ 256 < s.winN.toNat) ∧ t = raiseError .badCount s)
    ∨ (s.lcState = .established ∧ 1 ≤ s.winN.toNat ∧ s.winN.toNat ≤ 256
      ∧ t = { s with
              winAnchor := s.expSeq, winBase := 0, winCursor := 0, winWs := 1, winFailcnt := 0
              winActive := true, winDone := false, winFailed := false }) := by
  unfold execWinStart at h
  split at h
  · simp_all
  · split at h
    · simp_all
    · refine .inr (.inr ⟨by simp_all, by omega, by omega, by simpa using h.symm⟩)

theorem execWinSent_next (s t : State) (h : execWinSent s = .next t) :
    (s.winActive = false ∧ t = raiseError .winInactive s)
    ∨ (s.winTop < s.winCursor.toNat ∧ t = raiseError .noSendSlot s)
    ∨ (s.winActive = true ∧ s.winCursor.toNat ≤ s.winTop ∧ t = { s with winCursor := s.winCursor + 1 }) := by
  unfold execWinSent at h
  split at h
  · simp_all
  · split at h <;> simp_all

theorem execWinAck_next (s t : State) (h : execWinAck s = .next t) :
    (s.winActive = false ∧ t = raiseError .winInactive s)
    ∨ (s.payloadTooLong = true ∧ t = raiseError .oversize s)
    ∨ (s.winActive = true ∧ s.payloadTooLong = false ∧ t = judgeAck (verifyStep s)) := by
  unfold execWinAck at h
  split at h
  · simp_all
  · split at h <;> simp_all

theorem execWinFail_next (s t : State) (h : execWinFail s = .next t) :
    (s.winActive = false ∧ t = raiseError .winInactive s) ∨ (s.winActive = true ∧ t = failWait s) := by
  unfold execWinFail at h
  split at h <;> simp_all

theorem execRxClassify_next (s t : State) (h : execRxClassify s = .next t) :
    (s.lcState ≠ .established ∧ t = raiseError .notEstablished s)
    ∨ (s.payloadTooLong = true ∧ t = raiseError .oversize s)
    ∨ (s.lcState = .established ∧ s.payloadTooLong = false ∧ t = classify s) := by
  unfold execRxClassify at h
  split at h
  · simp_all
  · split at h <;> simp_all

theorem execRxCommit_next (s t : State) (h : execRxCommit s = .next t) :
    (s.rxPend = false ∧ t = raiseError .noPending s)
    ∨ (s.rxAction = .fin ∧ s.lcState ≠ .established ∧ t = raiseError .badTransition s)
    ∨ (s.rxPend = true ∧ (s.rxAction = .fin → s.lcState = .established)
      ∧ t = { s with
              expSeq := if s.rxAction = .accept then s.rxAckSeq + 1 else s.expSeq
              lcState := if s.rxAction = .fin then .finRcvd else s.lcState
              rxPend := false }) := by
  unfold execRxCommit at h
  split at h
  · simp_all
  · split at h
    · simp_all
    · simp_all

theorem execRegRd_next (a : BitVec 16) (s t : State) (h : execRegRd a s = .next t) :
    (regOfAddress a = none ∧ t = { raiseError .badReg s with reply := some 0 })
    ∨ ∃ r, regOfAddress a = some r ∧ t = { s with reply := some (readReg s r) } := by
  unfold execRegRd at h
  cases hr : regOfAddress a with
  | none => rw [hr] at h; exact .inl ⟨rfl, by simpa using h⟩
  | some r => rw [hr] at h; exact .inr ⟨r, rfl, by simpa using h⟩

theorem execRegWr_next (a d : BitVec 16) (s t : State) (h : execRegWr a d s = .next t) :
    t = raiseError .badReg s
    ∨ (regOfAddress a = some .cmd ∧ executeWord d s = .next t)
    ∨ ∃ r, regOfAddress a = some r ∧ regAccess r = .readWrite ∧ (r = .winN → s.winActive = false)
      ∧ t = hostWriteReg r d s := by
  unfold execRegWr at h
  cases hr : regOfAddress a with
  | none => rw [hr] at h; exact .inl (by simpa using h)
  | some r =>
    rw [hr] at h
    simp only at h
    split at h
    · exact .inl (by simpa using h)
    · split at h
      · exact .inl (by simpa using h)
      · split at h
        · rename_i hc; subst hc; exact .inr (.inl ⟨rfl, h⟩)
        · rename_i ho hw hc
          refine .inr (.inr ⟨r, rfl, ?_, ?_, by simpa using h.symm⟩)
          · cases r <;> simp_all [regAccess]
          · intro hn; subst hn; simpa using hw

theorem execPbRd_next (a : BitVec 16) (s t : State) (h : execPbRd a s = .next t) :
    (s.params.P ≤ a.toNat ∧ t = { raiseError .badAddr s with reply := some 0 })
    ∨ (a.toNat < s.params.P ∧ t = { s with reply := some ((s.pbufByte a.toNat).setWidth 16) }) := by
  unfold execPbRd at h
  split at h <;> simp_all

theorem execPbWr_next (a d : BitVec 16) (s t : State) (h : execPbWr a d s = .next t) :
    (s.params.P ≤ a.toNat ∧ t = raiseError .badAddr s)
    ∨ (a.toNat < s.params.P
      ∧ t = { s with pbuf := s.pbuf.store a.toNat [d.extractLsb' 0 8], vok := false }) := by
  unfold execPbWr at h
  split at h <;> simp_all

theorem execFbRd_next (a : BitVec 16) (s t : State) (h : execFbRd a s = .next t) :
    (s.params.P + 4 ≤ a.toNat ∧ t = { raiseError .badAddr s with reply := some 0 })
    ∨ (a.toNat < s.params.P + 4 ∧ t = { s with reply := some ((s.fbufByte a.toNat).setWidth 16) }) := by
  unfold execFbRd at h
  split at h <;> simp_all

theorem execFbWr_next (a d : BitVec 16) (s t : State) (h : execFbWr a d s = .next t) :
    (s.params.P + 4 ≤ a.toNat ∧ t = raiseError .badAddr s)
    ∨ (a.toNat < s.params.P + 4 ∧ t = { s with fbuf := s.fbuf.store a.toNat [d.extractLsb' 0 8] }) := by
  unfold execFbWr at h
  split at h <;> simp_all

/-- What writing an error word can do. -/
theorem executeWord_next (w : Word) (s t : State) (h : executeWord w s = .next t) :
    (∃ e, decodeCommand w = .error e ∧ t = raiseError .illegalCmd s)
    ∨ ∃ c, decodeCommand w = .ok c ∧ runCommand c s = .next t := by
  unfold executeWord at h
  cases hd : decodeCommand w with
  | error e => rw [hd] at h; exact .inl ⟨e, rfl, by simpa using h⟩
  | ok c => rw [hd] at h; exact .inr ⟨c, rfl, h⟩

/-! ## One step -/

/-- What a step can do: wait, run a transaction, tick, or reset (R6, R8). -/
theorem step_next (s t : State) (h : step s = .next t) :
    (s.inputs = [] ∧ t = s)
    ∨ (∃ w rest, s.inputs = .transaction w :: rest ∧ runTransaction w (beginTransaction rest s) = .next t)
    ∨ (∃ rest, s.inputs = .tick :: rest ∧ t = timerTick (takeInput rest s))
    ∨ (∃ rest, s.inputs = .reset :: rest ∧ t = hardwareReset (takeInput rest s)) := by
  unfold step at h
  cases hi : s.inputs with
  | nil => rw [hi] at h; exact .inl ⟨rfl, by simpa using h.symm⟩
  | cons x rest =>
    rw [hi] at h
    cases x with
    | transaction w => exact .inr (.inl ⟨w, rest, rfl, h⟩)
    | tick => exact .inr (.inr (.inl ⟨rest, rfl, by simpa using h.symm⟩))
    | reset => exact .inr (.inr (.inr ⟨rest, rfl, by simpa using h.symm⟩))

/-- What a host transaction can do. -/
theorem runTransaction_next (w : BitVec 35) (s t : State) (h : runTransaction w s = .next t) :
    (∃ i, decodeTransaction w = .ok i ∧ exec i s = .next t)
    ∨ ∃ e, decodeTransaction w = .error e ∧ t = { raiseError .illegalCmd s with reply := some 0 } := by
  unfold runTransaction at h
  cases hd : decodeTransaction w with
  | ok i => rw [hd] at h; exact .inl ⟨i, rfl, h⟩
  | error e => rw [hd] at h; exact .inr ⟨e, rfl, by simpa using h⟩

end Sys2Proof.Machine
end

