-- ==== Sys2Proof/Laws/PerInstr.lean ====
section
/-! SUPPORT. The family of statements about the encoding of each instruction: its word has the format of its table
row, with the fields in their places (30_encoding.md R84, R90). -/

namespace Sys2Proof.Laws.EncodedFormat

/-- A command's word carries in `ARG` only what its operand puts there, and a host transaction's word carries its
`KIND`, 0 to 5; a read's `DATA` is 0 (R86, R91). -/
def Statement (i : Instr) : Prop :=
  match encode i with
  | .command w =>
    i.isCommand = true ∧ plainOrArgument i w
  | .transaction w =>
    i.isCommand = false ∧ (kindField w).toNat ≤ 5
      ∧ ((kindField w).toNat % 2 = 0 → dataField w = 0)
where
  /-- `ARG` is 0 but for LC_SET, whose `S` stands in ARG[2:0], and ATT_INC, whose `PH` stands in ARG[0]. -/
  plainOrArgument (i : Instr) (w : BitVec 16) : Prop :=
    match i with
    | .lcSet S => opField w = 0x10 ∧ argField w = (0 : BitVec 5) ++ S
    | .attInc PH => opField w = 0x15 ∧ argField w = (0 : BitVec 7) ++ bitOfPhase PH
    | _ => argField w = 0

theorem nop : Statement .nop := ⟨rfl, argField_commandWord _ _⟩

theorem csumGen : Statement .csumGen := ⟨rfl, argField_commandWord _ _⟩

theorem verify : Statement .verify := ⟨rfl, argField_commandWord _ _⟩

theorem serialize : Statement .serialize := ⟨rfl, argField_commandWord _ _⟩

theorem deserialize : Statement .deserialize := ⟨rfl, argField_commandWord _ _⟩

theorem encode : Statement .encode := ⟨rfl, argField_commandWord _ _⟩

theorem decode : Statement .decode := ⟨rfl, argField_commandWord _ _⟩

theorem pktClear : Statement .pktClear := ⟨rfl, argField_commandWord _ _⟩

theorem errClr : Statement .errClr := ⟨rfl, argField_commandWord _ _⟩

theorem lcSet (S : BitVec 3) : Statement (.lcSet S) := ⟨rfl, opField_commandWord _ _, argField_commandWord _ _⟩

theorem ctxReset : Statement .ctxReset := ⟨rfl, argField_commandWord _ _⟩

theorem seqReset : Statement .seqReset := ⟨rfl, argField_commandWord _ _⟩

theorem seqInc : Statement .seqInc := ⟨rfl, argField_commandWord _ _⟩

theorem attClr : Statement .attClr := ⟨rfl, argField_commandWord _ _⟩

theorem attInc (PH : Phase) : Statement (.attInc PH) := ⟨rfl, opField_commandWord _ _, argField_commandWord _ _⟩

theorem winStart : Statement .winStart := ⟨rfl, argField_commandWord _ _⟩

theorem winSent : Statement .winSent := ⟨rfl, argField_commandWord _ _⟩

theorem winAck : Statement .winAck := ⟨rfl, argField_commandWord _ _⟩

theorem winFail : Statement .winFail := ⟨rfl, argField_commandWord _ _⟩

theorem rxClassify : Statement .rxClassify := ⟨rfl, argField_commandWord _ _⟩

theorem rxCommit : Statement .rxCommit := ⟨rfl, argField_commandWord _ _⟩

theorem tmrArm : Statement .tmrArm := ⟨rfl, argField_commandWord _ _⟩

theorem tmrDisarm : Statement .tmrDisarm := ⟨rfl, argField_commandWord _ _⟩

theorem regRd (addr : BitVec 16) : Statement (.regRd addr) := by
  refine ⟨rfl, ?_, ?_⟩ <;> simp

theorem regWr (addr data : BitVec 16) : Statement (.regWr addr data) := by
  refine ⟨rfl, ?_, ?_⟩ <;> simp

theorem pbRd (addr : BitVec 16) : Statement (.pbRd addr) := by
  refine ⟨rfl, ?_, ?_⟩ <;> simp

theorem pbWr (addr data : BitVec 16) : Statement (.pbWr addr data) := by
  refine ⟨rfl, ?_, ?_⟩ <;> simp

theorem fbRd (addr : BitVec 16) : Statement (.fbRd addr) := by
  refine ⟨rfl, ?_, ?_⟩ <;> simp

theorem fbWr (addr data : BitVec 16) : Statement (.fbWr addr data) := by
  refine ⟨rfl, ?_, ?_⟩ <;> simp

end Sys2Proof.Laws.EncodedFormat
end

