-- ==== Sys2Proof/Tests/Slice0.lean ====
section
/-! SUPPORT. The model's own tests. Expected values are the spec's: the encodings of 30_encoding.md and the
vectors of 95_test_vectors.md (P = 8, as there); a comment names the vector. The second half shows, for each
obligation that has hypotheses, a state and operands that meet them. -/

namespace Sys2Proof.Tests

open Sys2Proof Sys2Proof.Machine

/-! ## WellFormed -/

theorem test_wellFormed_refuses_reserved_lifecycle_codes :
    (Instr.lcSet 6).wellFormed = false ∧ (Instr.lcSet 7).wellFormed = false := by decide

theorem test_wellFormed_accepts_the_six_lifecycle_codes :
    ∀ S : BitVec 3, S.toNat < 6 → (Instr.lcSet S).wellFormed = true := by decide

/-! ## Decoding: every constructor, its word written out from R84 to R91 (ARG, then OP; KIND, ADDR, DATA) -/

theorem test_decode_control_and_codec :
    decodeCommand 0b00000000_00000000 = .ok .nop ∧ decodeCommand 0b00000000_00000001 = .ok .csumGen
    ∧ decodeCommand 0b00000000_00000010 = .ok .verify ∧ decodeCommand 0b00000000_00000011 = .ok .serialize
    ∧ decodeCommand 0b00000000_00000100 = .ok .deserialize ∧ decodeCommand 0b00000000_00000101 = .ok .encode
    ∧ decodeCommand 0b00000000_00000110 = .ok .decode ∧ decodeCommand 0b00000000_00000111 = .ok .pktClear
    ∧ decodeCommand 0b00000000_00001000 = .ok .errClr := by
  refine ⟨rfl, rfl, rfl, rfl, rfl, rfl, rfl, rfl, rfl⟩

theorem test_decode_context :
    decodeCommand 0b00000101_00010000 = .ok (.lcSet 5) ∧ decodeCommand 0b00000010_00010000 = .ok (.lcSet 2)
    ∧ decodeCommand 0b00000000_00010001 = .ok .ctxReset ∧ decodeCommand 0b00000000_00010010 = .ok .seqReset
    ∧ decodeCommand 0b00000000_00010011 = .ok .seqInc ∧ decodeCommand 0b00000000_00010100 = .ok .attClr
    ∧ decodeCommand 0b00000000_00010101 = .ok (.attInc .connect)
    ∧ decodeCommand 0b00000001_00010101 = .ok (.attInc .close) := by
  refine ⟨rfl, rfl, rfl, rfl, rfl, rfl, rfl, rfl⟩

theorem test_decode_window_receiver_timer :
    decodeCommand 0b00000000_00100000 = .ok .winStart ∧ decodeCommand 0b00000000_00100001 = .ok .winSent
    ∧ decodeCommand 0b00000000_00100010 = .ok .winAck ∧ decodeCommand 0b00000000_00100011 = .ok .winFail
    ∧ decodeCommand 0b00000000_00101000 = .ok .rxClassify ∧ decodeCommand 0b00000000_00101001 = .ok .rxCommit
    ∧ decodeCommand 0b00000000_00110000 = .ok .tmrArm ∧ decodeCommand 0b00000000_00110001 = .ok .tmrDisarm := by
  refine ⟨rfl, rfl, rfl, rfl, rfl, rfl, rfl, rfl⟩

theorem test_decode_transactions :
    decodeTransaction 0b000_0000000000101001_0000000000000000 = .ok (.regRd 0x29)
    ∧ decodeTransaction 0b001_0000000000001000_0001001000000010 = .ok (.regWr 0x08 0x1202)
    ∧ decodeTransaction 0b010_0000000000000111_0000000000000000 = .ok (.pbRd 7)
    ∧ decodeTransaction 0b011_0000000000000011_0000000001000001 = .ok (.pbWr 3 0x41)
    ∧ decodeTransaction 0b100_0000000000001011_0000000000000000 = .ok (.fbRd 11)
    ∧ decodeTransaction 0b101_0000000000000001_0000000000000101 = .ok (.fbWr 1 5) := by
  refine ⟨rfl, rfl, rfl, rfl, rfl, rfl⟩

/-- HV13 to HV18, CT15, CT16. -/
theorem test_decode_refuses_illegal_words :
    decodeTransaction 0x600000000 = .error .reservedKind ∧ decodeTransaction 0x700000000 = .error .reservedKind
    ∧ decodeTransaction 0x000020001 = .error .readWithData ∧ decodeCommand 0x0102 = .error .argumentBits
    ∧ decodeCommand 0x0009 = .error .reservedOpcode ∧ decodeCommand 0x0215 = .error .argumentBits
    ∧ decodeCommand 0x0810 = .error .argumentBits ∧ decodeCommand 0x0710 = .error .reservedLifecycleCode
    ∧ decodeCommand 0x0211 = .error .argumentBits := by
  refine ⟨rfl, rfl, rfl, rfl, rfl, rfl, rfl, rfl, rfl⟩

theorem test_decodeTableWord :
    decodeTableWord 16 0x0410 = some (.lcSet 4) ∧ decodeTableWord 40 0x100010003 = some (.regWr 1 3)
    ∧ decodeTableWord 16 0x0009 = none ∧ decodeTableWord 40 0x600000000 = none := by
  refine ⟨rfl, rfl, rfl, rfl⟩

/-! ## States the tests start from -/

/-- The next state of an outcome, if there is one. -/
def nextOf : Host.Outcome State Fault Refusal → Option State
  | .next t => some t
  | .fault _ => none
  | .refused _ => none

/-- What a field holds after one instruction. -/
def after {α : Type} (i : Instr) (s : State) (f : State → α) : Option α := (nextOf (exec i s)).map f

/-- The DATA packet of R105's example. -/
def dataPacket : State :=
  { State.reset with pktType := 0x02, pktSeq := 0x05, pktPlen := 2, pbuf := [(0, 0x41), (1, 0x42)] }

/-- A received frame, its length in `FLEN`. -/
def withFrame (s : State) (bytes : List Byte) : State :=
  { s with fbuf := Memory.cellsFrom 0 bytes, flen := BitVec.ofNat 16 bytes.length }

def established : State := { State.reset with lcState := .established }

/-- A send of three chunks at window size 2: base 1, cursor 3 (WV2 before its last acknowledgement). -/
def midSend : State :=
  { established with
    winActive := true, winN := 3, winBase := 1, winCursor := 3, winWs := 2, expSeq := 1 }

/-- A verified packet without payload. -/
def withPacket (s : State) (t q : Byte) (csum : Word) : State :=
  { s with pktType := t, pktSeq := q, pktCsum := csum, pktPlen := 0 }

/-! ## Codec unit -/

/-- CX1. -/
theorem test_csumGen : after .csumGen { dataPacket with pktCsum := 0x1234 } (fun t => (t.pktCsum, t.csumCalc, t.vok))
    = some (0xBCB8, 0xBCB8, true) := by decide

/-- CX15. -/
theorem test_csumGen_oversize : after .csumGen { dataPacket with pktPlen := 9, pktCsum := 0x1111 }
    (fun t => (t.pktCsum, t.err, t.errcode)) = some (0x1111, true, .oversize) := by decide

/-- CS9, CS10, CS11, CS17, CS28: odd length, end-around carry, a checksum of 0, a full payload. -/
theorem test_checksum_values :
    checksum 8 0x02 0x05 (fun i => [0x41, 0x42, 0x43].getD i 0xAA) 3 = 0x79B8
    ∧ checksum 8 0x02 0xFF (fun _ => 0xFF) 2 = 0xFD00
    ∧ checksum 8 0x02 0x00 (fun i => [0xFD, 0xFF].getD i 0xAA) 2 = 0x0000
    ∧ checksum 7 0x02 0x00 (fun i => [0x48, 0x65, 0x6C, 0x6C, 0x6F].getD i 0xAA) 5 = 0xDA2D
    ∧ checksum 8 0x02 0x09 (fun i => BitVec.ofNat 8 (i + 1)) 8 = 0xEDE2 := by decide

/-- CX2 and CS4. -/
theorem test_verify :
    after .verify { dataPacket with pktCsum := 0xBCB8 } (fun t => (t.csumCalc, t.vok)) = some (0xBCB8, true)
    ∧ after .verify { dataPacket with pktCsum := 0xBCB8, pbuf := [(0, 0x41), (1, 0x43)] }
        (fun t => (t.csumCalc, t.vok)) = some (0xBCB7, false) := by decide

/-- CX3. -/
theorem test_serialize : after .serialize { dataPacket with pktCsum := 0xBCB8, vok := true }
    (fun t => (t.fbuf.map Prod.snd, t.flen, t.vok))
    = some ([0x02, 0x05, 0xBC, 0xB8, 0x41, 0x42, 0, 0, 0, 0, 0, 0], 6, true) := by decide

/-- CX4. -/
theorem test_deserialize : after .deserialize (withFrame State.reset [0x02, 0x05, 0xBC, 0xB8, 0x41, 0x42])
    (fun t => (t.pktType, t.pktSeq, t.pktCsum, t.pktPlen, t.pbuf.map Prod.snd))
    = some (0x02, 0x05, 0xBCB8, 2, [0x41, 0x42, 0, 0, 0, 0, 0, 0]) := by decide

/-- CX17, CX18. -/
theorem test_deserialize_errors :
    after .deserialize { State.reset with flen := 13 } (fun t => t.errcode) = some .oversize
    ∧ after .deserialize { State.reset with flen := 2 } (fun t => t.errcode) = some .framing := by decide

/-- CX6. -/
theorem test_encode : after .encode (withPacket State.reset 0x03 0x05 0)
    (fun t => ((t.fbuf.map Prod.snd).take 4, t.flen, t.vok)) = some ([0x03, 0x05, 0xFC, 0xFA], 4, true) := by decide

/-- CX7, CX10. -/
theorem test_decode :
    after .decode (withFrame State.reset [0x00, 0x00, 0xFF, 0xFF]) (fun t => (t.pktPlen, t.csumCalc, t.vok))
      = some (0, 0xFFFF, true)
    ∧ after .decode (withFrame State.reset [0x03, 0x05, 0x00, 0x00]) (fun t => (t.csumCalc, t.vok))
      = some (0xFCFA, false) := by decide

/-- CX8. -/
theorem test_pktClear :
    after .pktClear { dataPacket with vok := true, flen := 6 } (fun t => (t.pktType, t.pktSeq, t.pktPlen, t.vok))
      = some (0, 0, 0, false)
    ∧ after .pktClear { dataPacket with vok := true, flen := 6 } (fun t => (t.pbuf.map Prod.snd, t.flen))
      = some ([0, 0, 0, 0, 0, 0, 0, 0], 6) := by decide

/-! ## Control and context -/

/-- HV19. -/
theorem test_nop : after .nop dataPacket (fun t => t) = some dataPacket := rfl

/-- HV20. -/
theorem test_errClr : after .errClr { State.reset with err := true, errcode := .framing }
    (fun t => (t.err, t.errcode)) = some (false, .none) := by decide

/-- CT1, CT5, CT6. -/
theorem test_lcSet :
    after (.lcSet 3) { State.reset with lcState := .synSent, expSeq := 7 } (fun t => (t.lcState, t.expSeq))
      = some (.established, 0)
    ∧ after (.lcSet 3) { State.reset with lcState := .finSent, expSeq := 9 } (fun t => (t.lcState, t.expSeq))
      = some (.established, 9) := by decide

/-- CT3: R141's example. -/
theorem test_lcSet_illegal : after (.lcSet 4) State.reset (fun t => (t.lcState, t.errcode))
    = some (.closed, .badTransition) := by decide

/-- CT14. -/
theorem test_ctxReset :
    let s : State := { midSend with attCnt := 10, attExh := true, ien := 3, limData := 4, err := true, errcode := .framing }
    after .ctxReset s (fun t => (t.lcState, t.winActive, t.winN, t.winWs, t.attCnt)) = some (.closed, false, 0, 1, 0)
    ∧ after .ctxReset s (fun t => (t.err, t.errcode, t.ien, t.limData)) = some (true, .framing, 3, 4) := by decide

/-- CT8, CT7. -/
theorem test_seq :
    after .seqReset { State.reset with expSeq := 0x2A } (fun t => t.expSeq) = some 0
    ∧ after .seqInc { State.reset with expSeq := 0xFF } (fun t => t.expSeq) = some 0 := by decide

/-- CT13. -/
theorem test_attClr : after .attClr { State.reset with attCnt := 4, attExh := true }
    (fun t => (t.attCnt, t.attExh)) = some (0, false) := by decide

/-- CT9, CT12. -/
theorem test_attInc :
    after (.attInc .close) { State.reset with attCnt := 9, limConnect := 20 } (fun t => (t.attCnt, t.attExh))
      = some (10, true)
    ∧ after (.attInc .connect) { State.reset with attCnt := 255, limConnect := 255 }
        (fun t => (t.attCnt, t.attExh)) = some (255, true) := by decide

/-! ## Window unit -/

/-- WV7. -/
theorem test_winStart : after .winStart { established with winN := 2, expSeq := 0xFF }
    (fun t => (t.winAnchor, t.winNextSeq, t.winActive, t.winTop)) = some (0xFF, 0xFF, true, 0) := by decide

/-- WE2, WE4. -/
theorem test_winStart_errors :
    after .winStart State.reset (fun t => t.errcode) = some .notEstablished
    ∧ after .winStart { established with winN := 257 } (fun t => t.errcode) = some .badCount := by decide

/-- R176's example. -/
theorem test_winSent :
    after .winSent { midSend with winCursor := 2 } (fun t => t.winCursor) = some 3
    ∧ after .winSent midSend (fun t => t.errcode) = some .noSendSlot := by decide

/-- WV2: the cumulative jump, CS26. -/
theorem test_winAck_cumulative : after .winAck (withPacket midSend 0x03 0x02 0xFCFD)
    (fun t => (t.winBase, t.winCursor, t.winDone, t.winActive, t.expSeq)) = some (3, 3, true, false, 3) := by decide

/-- WV4: a corrupt acknowledgement. -/
theorem test_winAck_corrupt :
    after .winAck (withPacket { midSend with winBase := 0, winCursor := 1, winWs := 1, winN := 2 } 0x03 0x00 0xFCFE)
    (fun t => (t.csumCalc, t.vok, t.winCursor, t.winFailcnt)) = some (0xFCFF, false, 0, 1) := by decide

/-- WV12, R181's example. -/
theorem test_winFail :
    after .winFail { midSend with winBase := 0, winWs := 1, winCursor := 1, winFailcnt := 9 }
      (fun t => (t.winCursor, t.winFailcnt, t.winActive, t.winFailed)) = some (0, 10, false, true)
    ∧ after .winFail State.reset (fun t => t.errcode) = some .winInactive := by decide

/-! ## Receiver -/

/-- RV3 and RV4: distances 0x80 and 0x7F. -/
theorem test_rxClassify_half_space :
    after .rxClassify (withPacket { established with expSeq := 5 } 0x02 0x85 0xFD7A)
      (fun t => (t.rxAction, t.rxAckType, t.rxAckSeq)) = some (.stale, 0x03, 0x85)
    ∧ after .rxClassify (withPacket { established with expSeq := 5 } 0x02 0x84 0xFD7B)
      (fun t => (t.rxAction, t.rxAckType, t.rxAckSeq)) = some (.nackGap, 0x03, 0x04) := by decide

/-- RV9: a corrupt FIN is not trusted. -/
theorem test_rxClassify_corrupt_fin :
    after .rxClassify (withPacket { established with expSeq := 5 } 0x04 0x00 0xFBFE)
    (fun t => (t.rxAction, t.rxAckSeq, t.rxPend)) = some (.nackCsum, 0x04, true) := by decide

/-- RE6. -/
theorem test_rxCommit_accept : after .rxCommit
    { established with rxPend := true, rxAction := .accept, rxAckSeq := 5, expSeq := 6 }
    (fun t => (t.expSeq, t.rxPend, t.rxAction)) = some (6, false, .accept) := by decide

/-- RE4. -/
theorem test_rxCommit_fin_late : after .rxCommit { State.reset with rxPend := true, rxAction := .fin }
    (fun t => (t.lcState, t.rxPend, t.errcode)) = some (.closed, true, .badTransition) := by decide

/-! ## Timer -/

/-- TV1, TV5. -/
theorem test_tmrArm :
    after .tmrArm { State.reset with tmrReload := 3, tmrExp := true } (fun t => (t.tmrCnt, t.tmrRun, t.tmrExp))
      = some (3, true, false)
    ∧ after .tmrArm { State.reset with tmrReload := 0, ien := 1 } (fun t => t.statusWord) = some 0x0C08 := by decide

/-- TV7. -/
theorem test_tmrDisarm : after .tmrDisarm { State.reset with tmrCnt := 2, tmrRun := true }
    (fun t => (t.tmrCnt, t.tmrRun, t.tmrExp)) = some (0, false, false) := by decide

/-- TV3. -/
theorem test_tick_expires : (nextOf (step { State.reset with tmrCnt := 1, tmrRun := true, inputs := [.tick] })).map
    (fun t => (t.tmrCnt, t.tmrRun, t.tmrExp)) = some (0, false, true) := by decide

/-! ## Host transactions -/

/-- HV1, HV6. -/
theorem test_regRd :
    after (.regRd 0x02) State.reset (fun t => t.reply) = some (some 0x0400)
    ∧ after (.regRd 0x05) State.reset (fun t => (t.reply, t.errcode)) = some (some 0, .badReg) := by decide

/-- HV4, WE8. -/
theorem test_regWr :
    after (.regWr 0x08 0x1202) { State.reset with vok := true } (fun t => (t.pktType, t.vok)) = some (0x02, false)
    ∧ after (.regWr 0x20 5) midSend (fun t => (t.winN, t.errcode)) = some (3, .badReg) := by decide

/-- HV10. -/
theorem test_pbWr : after (.pbWr 0 0x1241) State.reset (fun t => t.pbuf) = some [(0, 0x41)] := by decide

/-- HV11, R247's example. -/
theorem test_pbRd :
    after (.pbRd 1) dataPacket (fun t => t.reply) = some (some 0x0042)
    ∧ after (.pbRd 8) dataPacket (fun t => (t.reply, t.errcode)) = some (some 0, .badAddr) := by decide

/-- R250's example. -/
theorem test_fbWr : after (.fbWr 0 0x02) (withFrame State.reset [9, 9]) (fun t => (t.fbuf, t.flen))
    = some ([(0, 0x02), (1, 9)], 2) := by decide

/-- R249's example, HV12. -/
theorem test_fbRd :
    after (.fbRd 2) (withFrame State.reset [0x03, 0x05, 0xFC, 0xFA]) (fun t => t.reply) = some (some 0x00FC)
    ∧ after (.fbRd 12) State.reset (fun t => t.errcode) = some .badAddr := by decide

/-- P6: the first error is kept. -/
theorem test_error_is_sticky : after (.regWr 0x3F 1) { State.reset with err := true, errcode := .framing }
    (fun t => (t.err, t.errcode)) = some (true, .framing) := by decide

/-- HV21: the DATA check comes before the address check. -/
theorem test_step_read_with_data :
    (nextOf (step { State.reset with inputs := [.transaction 0x000450003] })).map (fun t => (t.reply, t.errcode))
      = some (some 0, .illegalCmd) := by decide

/-- A table word issued as the first transaction after reset runs its instruction. -/
theorem test_withFetchWord :
    (nextOf (step (State.reset.withFetchWord 16 0x0110))).map (fun t => t.lcState) = some .synSent
    ∧ (nextOf (step (State.reset.withFetchWord 40 0x000020000))).map (fun t => t.reply) = some (some 0x0400) := by
  decide

/-! ## Witnesses: a state and operands that meet the hypotheses of each obligation -/

/-- One input waiting. -/
def State.withInput (s : State) (x : Input) : State := { s with inputs := [x] }

/-- A state with capacity 1, the least. -/
def smallest : State := State.init { P := 1, T0 := 0 }

/-- The frame of R107's example. -/
def exampleFrame : State := withFrame State.reset [0x02, 0x05, 0xBC, 0xB8, 0x41, 0x42]

theorem witness_DecodeInvertsEncode :
    (Instr.lcSet 5).wellFormed = true ∧ (Instr.regWr 0xFFFF 0xFFFF).wellFormed = true := by decide

theorem witness_EncodeInvertsDecode :
    decode (.command 0x0510) = .ok (.lcSet 5) ∧ decode (.transaction 0x0FFFF0000) = .ok (.regRd 0xFFFF) := by
  exact ⟨rfl, rfl⟩

theorem witness_OneTableRowPerLegalWord :
    decode (.command 0x0410) = .ok (.lcSet 4) ∧ decode (.command 0x0610) = .error .reservedLifecycleCode
    ∧ decode (.transaction 0x5FFFFFFFF) = .ok (.fbWr 0xFFFF 0xFFFF)
    ∧ decode (.transaction 0x600000000) = .error .reservedKind := by
  exact ⟨rfl, rfl, rfl, rfl⟩

/-- The least reserved opcode and the greatest. -/
theorem witness_OpcodeMap :
    let ops : List (BitVec 8) := [0x00, 0x01, 0x02, 0x03, 0x04, 0x05, 0x06, 0x07, 0x08, 0x10, 0x11, 0x12, 0x13,
      0x14, 0x15, 0x20, 0x21, 0x22, 0x23, 0x28, 0x29, 0x30, 0x31]
    (0x0009 : BitVec 16).extractLsb' 0 8 ∉ ops ∧ (0x00FF : BitVec 16).extractLsb' 0 8 ∉ ops :=
  ⟨by decide, by decide⟩

/-- One word for each way to be illegal, at the boundary of its field. -/
theorem witness_IllegalCommandWords :
    decodeCommand 0x0009 = .error .reservedOpcode
    ∧ decodeCommand 0x0810 = .error .argumentBits ∧ decodeCommand 0x0610 = .error .reservedLifecycleCode
    ∧ decodeCommand 0x0215 = .error .argumentBits ∧ decodeCommand 0x0100 = .error .argumentBits := by
  exact ⟨rfl, rfl, rfl, rfl, rfl⟩

theorem witness_TransactionKinds :
    ∃ s : State, s.inputs = .transaction ((6 : BitVec 3) ++ (0 : BitVec 16) ++ (0 : BitVec 16)) :: []
      ∧ ((6 : BitVec 3) = 6 ∨ (6 : BitVec 3) = 7) :=
  ⟨State.withInput State.reset (.transaction _), rfl, .inl rfl⟩

/-- The least nonzero `DATA` in a read. -/
theorem witness_TransactionKinds_readWithData :
    ∃ s : State, s.inputs = .transaction ((4 : BitVec 3) ++ (0 : BitVec 16) ++ (1 : BitVec 16)) :: []
      ∧ ((4 : BitVec 3) = 0 ∨ (4 : BitVec 3) = 2 ∨ (4 : BitVec 3) = 4) ∧ (1 : BitVec 16) ≠ 0 :=
  ⟨State.withInput State.reset (.transaction _), rfl, .inr (.inr rfl), by decide⟩

theorem witness_StepRunsDecodedInstruction :
    (State.withInput State.reset (.transaction 0x300030041)).inputs = [.transaction 0x300030041]
    ∧ decodeTransaction 0x300030041 = .ok (.pbWr 3 0x41)
    ∧ ((1 : BitVec 3) ++ (0x0001 : BitVec 16) ++ (0x0510 : Word) : BitVec 35) = 0x100010510
    ∧ decodeCommand 0x0510 = .ok (.lcSet 5) ∧ State.reset.inputs = [] := by
  refine ⟨rfl, rfl, by decide, rfl, rfl⟩

theorem witness_CmdWriteExecutesCommand :
    decodeCommand 0x0031 = .ok .tmrDisarm ∧ decodeCommand 0x0032 = .error .reservedOpcode := ⟨rfl, rfl⟩

theorem witness_ParametersNeverChange :
    (nextOf (step (State.withInput smallest .reset))).map (fun t => t.params.P) = some 1 := by decide

theorem witness_ResetValues : (State.withInput midSend .reset).inputs = .reset :: [] := rfl

/-- The boundary values of `P`. -/
theorem witness_InvariantHoldsAtReset :
    Config.Params.legal { P := 1, T0 := 0 } ∧ Config.Params.legal { P := 65531, T0 := 0xFFFF } := by decide

/-- A send in progress with a running timer, a verified packet and a pending verdict. -/
def busy : State :=
  { midSend with
    pktType := 0x02, pktSeq := 0x05, pktPlen := 2, pbuf := [(0, 0x41), (1, 0x42)], pktCsum := 0xBCB8
    vok := true, tmrRun := true, tmrCnt := 1, rxPend := true, rxAction := .stale, rxAckType := 0x03
    err := true, errcode := .badAddr, fbuf := [(11, 7)], inputs := [.tick] }

theorem busy_window : busy.WindowOk := by
  refine ⟨?_, ?_, ?_, ?_, ?_, ?_, ?_, ?_, ?_⟩ <;> decide

theorem witness_EveryStepKeepsInvariant :
    busy.Inv ∧ (nextOf (step busy)).map (fun t => (t.tmrCnt, t.tmrExp)) = some (0, true) := by
  refine ⟨⟨?_, ⟨?_, ?_, ?_, ?_⟩, iff_of_true rfl ?_, ⟨?_, ?_⟩, busy_window, ⟨?_, ?_⟩⟩, ?_⟩ <;> decide

theorem witness_VokAlwaysMeansVerified :
    busy.vok = true ∧ busy.VokSound ∧ (nextOf (step busy)).map (fun t => t.vok) = some true := by
  refine ⟨rfl, fun _ => ?_, ?_⟩ <;> decide

/-- An instruction that reports an error, and one that does not. -/
theorem witness_ErrorReportsArePreciseAndSticky :
    after (.pbRd 8) { busy with err := false, errcode := .none } (fun t => (t.err, t.errcode, t.reply))
      = some (true, .badAddr, some 0)
    ∧ after .seqInc { busy with err := false, errcode := .none } (fun t => t.err) = some false
    ∧ issuedBy .seqInc ≠ .errClr := by
  refine ⟨?_, ?_, ?_⟩ <;> decide

theorem witness_ErrClrClearsTheReport :
    (State.withInput busy (.transaction 0x100010008)).inputs = .transaction 0x100010008 :: []
    ∧ busy.err = true
    ∧ (nextOf (step (State.withInput busy (.transaction 0x100010008)))).map (fun t => t.err) = some false := by
  refine ⟨?_, ?_, ?_⟩ <;> decide

theorem witness_NopHasNoEffect : (0x01 : BitVec 8) ≠ 0 ∧ (0xFF : BitVec 8) ≠ 0 := by decide

/-- The least reserved index above the map, the greatest index, an address above the index space, and the least
addresses beyond the buffers. -/
theorem witness_OutOfRangeAccessesRefused :
    regOfAddress 0x2A = none ∧ regOfAddress 0x3F = none ∧ regOfAddress 0x05 = none
    ∧ (0x0040 : BitVec 16).extractLsb' 6 10 ≠ 0
    ∧ State.reset.params.P ≤ (8 : BitVec 16).toNat ∧ State.reset.params.P + 4 ≤ (12 : BitVec 16).toNat :=
  ⟨rfl, rfl, rfl, by decide, by decide, by decide⟩

theorem witness_RegisterWritesStoreImplementedBits :
    State.reset.winActive = false ∧ midSend.winActive = true := by decide

theorem witness_ReadOnlyRegistersRefuseWrites :
    (0x29 : BitVec 16) ∈
      ([0x00, 0x02, 0x03, 0x0C, 0x10, 0x11, 0x12, 0x18, 0x19, 0x1A, 0x21, 0x22, 0x23, 0x24, 0x25, 0x26,
        0x27, 0x29] : List (BitVec 16)) := by decide

theorem witness_DerivedWindowRegisters :
    State.reset.winN.toNat = 0 ∧ midSend.winN.toNat ≠ 0 ∧ 1 ≤ midSend.winWs.toNat
    ∧ 1 ≤ ({ midSend with winWs := 1 } : State).winWs.toNat := by decide

/-- The last byte of each buffer. -/
theorem witness_PayloadBufferTransactions : (7 : BitVec 16).toNat < State.reset.params.P := by decide
theorem witness_FrameBufferTransactions : (11 : BitVec 16).toNat < State.reset.params.P + 4 := by decide

/-- A full payload of an odd capacity, and an empty payload. -/
theorem witness_ChecksumIsOnesComplementSum : 7 ≤ 7 ∧ 0 ≤ 1 := by decide

theorem witness_ChecksumCoversOnlyThePayload :
    2 ≤ 2 ∧ 2 ≤ 9 ∧ ∀ j, j < 2 → (fun i : Nat => BitVec.ofNat 8 i) j
      = (fun i : Nat => if i < 2 then BitVec.ofNat 8 i else 0xAA) j := by decide

/-- CS21: words 0 and 1 swapped, the last word the payload admits. -/
theorem witness_AlignedWordSwapIsNotDetected :
    let buf : Nat → Byte := fun i => [0x41, 0x42, 0x43, 0x44].getD i 0x00
    let buf' : Nat → Byte := fun i => [0x43, 0x44, 0x41, 0x42].getD i 0x00
    4 ≤ 4 ∧ 2 * 0 + 1 < 4 ∧ 2 * 1 + 1 < 4
    ∧ buf' 0 = buf 2 ∧ buf' 1 = buf 3 ∧ buf' 2 = buf 0 ∧ buf' 3 = buf 1
    ∧ ∀ j, j / 2 ≠ 0 → j / 2 ≠ 1 → buf' j = buf j := by
  refine ⟨by decide, by decide, by decide, by decide, by decide, by decide, by decide, ?_⟩
  intro j h0 h1
  obtain ⟨k, rfl⟩ : ∃ k, j = k + 4 := ⟨j - 4, by omega⟩
  rfl

theorem witness_WorkedChecksumValues :
    3 ≤ 3 ∧ (fun i : Nat => ([0x41, 0x42, 0x43] : List Byte).getD i 0) 2 = 0x43
    ∧ (fun _ : Nat => (0xFF : Byte)) 1 = 0xFF
    ∧ (fun i : Nat => ([0xFD, 0xFF] : List Byte).getD i 0) 0 = 0xFD := by decide

/-- The packet of the example, a full payload, an empty one, and one byte too many. -/
theorem witness_CsumGenSetsTheChecksum :
    dataPacket.pktPlen.toNat ≤ dataPacket.params.P ∧ dataPacket.pbufByte 0 = 0x41 ∧ dataPacket.pbufByte 1 = 0x42
    ∧ ({ dataPacket with pktPlen := 8 } : State).pktPlen.toNat ≤ dataPacket.params.P
    ∧ ({ dataPacket with pktPlen := 0 } : State).pktPlen = 0
    ∧ dataPacket.params.P < ({ dataPacket with pktPlen := 9 } : State).pktPlen.toNat := by
  refine ⟨?_, ?_, ?_, ?_, ?_, ?_⟩ <;> decide

theorem witness_VerifyComparesTheChecksum :
    dataPacket.pktPlen.toNat ≤ dataPacket.params.P ∧ dataPacket.pktType = 0x02 ∧ dataPacket.pktPlen = 2
    ∧ dataPacket.pbufByte 0 = 0x41 ∧ dataPacket.pbufByte 1 = 0x42
    ∧ ({ dataPacket with pbuf := [(0, 0x41), (1, 0x43)] } : State).pbufByte 1 = 0x43
    ∧ dataPacket.params.P < ({ dataPacket with pktPlen := 9 } : State).pktPlen.toNat := by
  refine ⟨?_, ?_, ?_, ?_, ?_, ?_, ?_⟩ <;> decide

theorem witness_SerializeWritesTheFrame :
    (0 : Word).toNat ≤ dataPacket.params.P ∧ (8 : Word).toNat ≤ dataPacket.params.P
    ∧ dataPacket.params.P < ({ dataPacket with pktPlen := 9 } : State).pktPlen.toNat := by decide

/-- The shortest frame, the longest, and one byte less and more than those. -/
theorem witness_DeserializeReadsTheFrame :
    (4 ≤ (4 : Word).toNat ∧ (12 : Word).toNat ≤ State.reset.params.P + 4)
    ∧ ({ State.reset with flen := 3 } : State).flen.toNat < 4
    ∧ 4 ≤ ({ State.reset with flen := 13 } : State).flen.toNat
    ∧ State.reset.params.P + 4 < ({ State.reset with flen := 13 } : State).flen.toNat := by
  refine ⟨?_, ?_, ?_, ?_⟩ <;> decide

theorem witness_EncodeIsCsumGenThenSerialize :
    let s := withPacket State.reset 0x03 0x05 0
    s.pktPlen.toNat ≤ s.params.P ∧ s.pktType = 0x03 ∧ s.pktSeq = 0x05 ∧ s.pktPlen = 0
    ∧ s.params.P < ({ s with pktPlen := 9 } : State).pktPlen.toNat := by
  refine ⟨?_, ?_, ?_, ?_, ?_⟩ <;> decide

theorem witness_DecodeIsDeserializeThenVerify :
    let s := withFrame State.reset [0x00, 0x00, 0xFF, 0xFF]
    4 ≤ s.flen.toNat ∧ s.flen.toNat ≤ s.params.P + 4 ∧ s.flen = 4 ∧ s.fbufByte 0 = 0x00 ∧ s.fbufByte 1 = 0x00
    ∧ s.fbufByte 2 = 0xFF ∧ s.fbufByte 3 = 0xFF
    ∧ ({ s with flen := 3 } : State).flen.toNat < 4 ∧ s.params.P + 4 < ({ s with flen := 13 } : State).flen.toNat := by
  refine ⟨?_, ?_, ?_, ?_, ?_, ?_, ?_, ?_, ?_⟩ <;> decide

/-- The frame of R105's packet, held by another block of the same capacity. -/
theorem witness_EncodedFrameDecodesToThePacket :
    dataPacket.params.legal ∧ dataPacket.pktPlen.toNat ≤ dataPacket.params.P
    ∧ after .encode dataPacket (fun t => (t.params.P, t.flen)) = some (exampleFrame.params.P, exampleFrame.flen)
    ∧ after .encode dataPacket (fun t => (List.range 6).map t.fbufByte)
        = some ((List.range 6).map exampleFrame.fbufByte) := by
  refine ⟨?_, ?_, ?_, ?_⟩ <;> decide

/-- CS4: the last byte of the frame changed in one bit. -/
theorem witness_OneByteChangeOfAFrameIsDetected :
    let s' := withFrame State.reset [0x02, 0x05, 0xBC, 0xB8, 0x41, 0x43]
    4 ≤ exampleFrame.flen.toNat ∧ exampleFrame.flen.toNat ≤ exampleFrame.params.P + 4
    ∧ after .decode exampleFrame (fun t => t.vok) = some true
    ∧ s'.params.P = exampleFrame.params.P ∧ s'.flen = exampleFrame.flen ∧ 5 < exampleFrame.flen.toNat
    ∧ s'.fbufByte 5 ≠ exampleFrame.fbufByte 5
    ∧ ∀ i < 6, i ≠ 5 → s'.fbufByte i = exampleFrame.fbufByte i := by
  refine ⟨?_, ?_, ?_, ?_, ?_, ?_, ?_, ?_⟩ <;> decide

theorem witness_CodecCommandsKeepToTheCodec :
    Instr.encode ∈ ([.csumGen, .verify, .serialize, .deserialize, .encode, .decode, .pktClear] : List Instr)
    ∧ after .encode dataPacket (fun t => t.flen) = some 6 := by decide

/-- Entry to ESTABLISHED from SYN_SENT, a transition to the same state, an illegal pair, and the codes 5 and 6. -/
theorem witness_LcSetFollowsTheLegalTransitions :
    lifecycleCode .established = (3 : BitVec 3).toNat
    ∧ (lifecycleCode .synSent, (3 : BitVec 3).toNat) ∈
        ([(0, 1), (1, 3), (1, 0), (0, 2), (2, 3), (3, 4), (4, 0), (4, 3), (3, 5), (5, 0)] : List (Nat × Nat))
    ∧ lifecycleCode .closed = (0 : BitVec 3).toNat
    ∧ (lifecycleCode .closed, (4 : BitVec 3).toNat) ∉
        ([(0, 1), (1, 3), (1, 0), (0, 2), (2, 3), (3, 4), (4, 0), (4, 3), (3, 5), (5, 0)] : List (Nat × Nat))
    ∧ (5 : BitVec 3).toNat < 6 ∧ 6 ≤ (6 : BitVec 3).toNat := by decide

theorem witness_AttemptCounterCommands :
    (0x0215 : BitVec 16).extractLsb' 0 8 = 0x15 ∧ (0x0215 : BitVec 16).extractLsb' 9 7 ≠ 0 := by decide

/-- One attempt against a limit of 1. -/
theorem witness_AttemptsExhaustAtTheLimit :
    1 ≤ 1 ∧ ({ State.reset with limConnect := 1 } : State).limConnect.toNat ≤ 1 := by decide

theorem witness_LifecycleChangesOnlyOnCommand :
    (State.withInput State.reset (.transaction 0x100010110)).inputs = .transaction 0x100010110 :: []
    ∧ (nextOf (step (State.withInput State.reset (.transaction 0x100010110)))).map (fun t => t.lcState)
        = some .synSent := by decide

/-- The chunk counts 1 and 256, 0 and 257, and a closed connection. -/
theorem witness_WinStartBeginsASend :
    established.lcState = .established ∧ (1 ≤ (1 : BitVec 9).toNat ∧ (256 : BitVec 9).toNat ≤ 256)
    ∧ ((0 : BitVec 9).toNat = 0 ∧ 256 < (257 : BitVec 9).toNat)
    ∧ State.reset.lcState ≠ .established := by
  refine ⟨?_, ?_, ?_, ?_⟩ <;> decide

theorem witness_WinSentAdvancesTheCursor :
    midSend.winActive = true ∧ ({ midSend with winCursor := 2 } : State).winCursor.toNat ≤ midSend.winTop
    ∧ midSend.winTop < midSend.winCursor.toNat ∧ State.reset.winActive = false := by decide

theorem midSend_window (t q : Byte) (c : Word) : (withPacket midSend t q c).WindowOk := by
  exact ⟨Or.inr rfl, (by decide : midSend.winBase.toNat ≤ 256), (by decide : midSend.winCursor.toNat ≤ 256),
    (by decide : midSend.winBase.toNat ≤ midSend.winCursor.toNat),
    (by decide : ¬ (midSend.winDone = true ∧ midSend.winFailed = true)), fun _ => ⟨rfl, rfl⟩,
    fun _ => (by decide : midSend.winBase.toNat < midSend.winN.toNat ∧ midSend.winN.toNat ≤ 256),
    fun _ => (by decide : midSend.winCursor.toNat ≤ midSend.winTop + 1),
    fun _ => (by decide : midSend.winBase.toNat ≤ midSend.winTop ∧ midSend.winTop ≤ midSend.winBase.toNat + 1
      ∧ midSend.winTop ≤ midSend.winN.toNat - 1)⟩

/-- An acknowledgement of the base, of the top, a corrupt one, a closed window, and a packet too long. -/
theorem witness_WinAckJudgesTheFrame :
    (withPacket midSend 0x03 0x01 0xFCFE).WindowOk ∧ midSend.winActive = true
    ∧ (withPacket midSend 0x03 0x01 0xFCFE).verifies = true
    ∧ (0x01 : Byte).toNat = (midSend.winAnchor.toNat + midSend.winBase.toNat) % 256
    ∧ (withPacket midSend 0x03 0x02 0xFCFD).verifies = true ∧ midSend.winWs = 2
    ∧ (0x02 : Byte).toNat = (midSend.winAnchor.toNat + midSend.winTop) % 256
    ∧ (withPacket midSend 0x03 0x02 0xFCFE).verifies = false
    ∧ State.reset.winActive = false
    ∧ ({ midSend with pktPlen := 9 } : State).params.P < ({ midSend with pktPlen := 9 } : State).pktPlen.toNat := by
  refine ⟨midSend_window _ _ _, ?_, ?_, ?_, ?_, ?_, ?_, ?_, ?_, ?_⟩ <;> decide

/-- One failure short of the limit, the limit, and a limit of 0. -/
theorem witness_WinFailCountsTheFailure :
    midSend.winActive = true
    ∧ min (({ midSend with winFailcnt := 8 } : State).winFailcnt.toNat + 1) 255 < midSend.limData.toNat
    ∧ midSend.limData.toNat ≤ min (({ midSend with winFailcnt := 9 } : State).winFailcnt.toNat + 1) 255
    ∧ ({ midSend with limData := 0 } : State).limData.toNat ≤ min (midSend.winFailcnt.toNat + 1) 255
    ∧ State.reset.winActive = false := by
  refine ⟨?_, ?_, ?_, ?_, ?_⟩ <;> decide

theorem witness_CumulativeAckJumpsPastBoth :
    let s := withPacket midSend 0x03 0x02 0xFCFD
    s.WindowOk ∧ s.winActive = true ∧ s.winWs = 2 ∧ s.winTop = s.winBase.toNat + 1
    ∧ s.pktPlen.toNat ≤ s.params.P ∧ s.verifies = true ∧ s.pktType = typeDATAACK ∧ s.pktSeq = s.seqw s.winTop := by
  refine ⟨midSend_window _ _ _, ?_, ?_, ?_, ?_, ?_, ?_, ?_⟩ <;> decide

/-- During a send, a WIN_ACK that advances the base. -/
theorem witness_ActiveSendKeepsExpSeqAtTheBase :
    let s := State.withInput (withPacket midSend 0x03 0x01 0xFCFE) (.transaction 0x100010022)
    s.winActive = true ∧ s.BaseAnchored ∧ s.inputs = .transaction 0x100010022 :: []
    ∧ (Input.transaction 0x100010022).issued = some .winAck
    ∧ (nextOf (step s)).map (fun t => (t.winActive, t.winBase, t.expSeq)) = some (true, 2, 2) := by
  refine ⟨rfl, fun _ => ?_, rfl, ?_, ?_⟩ <;> decide

/-- One chunk, failed once. -/
theorem witness_SendEndsWithinTheOutcomeBound :
    let s : State := { established with winN := 1, limData := 1 }
    s.lcState = .established ∧ 1 ≤ s.winN.toNat ∧ s.winN.toNat ≤ 256
    ∧ after .winStart s (fun t => outcomeReports [.transaction 0x100010023, .tick, .transaction 0x100010023] t) = some 1
    ∧ (Input.transaction 0x100010023).issued = some .winFail := by
  refine ⟨?_, ?_, ?_, ?_, ?_⟩ <;> decide

/-- The distances 0, 1, 127, 128 and 255, a packet of each other type, a corrupt one, a closed connection and a
packet too long. -/
theorem witness_RxClassifyGivesTheVerdict :
    established.lcState = .established ∧ established.pktPlen.toNat ≤ established.params.P
    ∧ ((withPacket { established with expSeq := 5 } 0x02 0x05 0xFDFA).verifies = true
      ∧ (withPacket { established with expSeq := 5 } 0x02 0x06 0xFDF9).verifies = true
      ∧ (withPacket { established with expSeq := 5 } 0x02 0x84 0xFD7B).verifies = true
      ∧ (withPacket { established with expSeq := 5 } 0x02 0x85 0xFD7A).verifies = true
      ∧ (withPacket { established with expSeq := 5 } 0x02 0x04 0xFDFB).verifies = true)
    ∧ ((withPacket established 0x00 0 0xFFFF).verifies = true ∧ (withPacket established 0x04 0 0xFBFF).verifies = true
      ∧ (withPacket established 0x01 0 0xFEFF).verifies = true
      ∧ (withPacket established 0x06 0 0xF9FF).verifies = true)
    ∧ (withPacket established 0x04 0 0x0000).verifies = false
    ∧ State.reset.lcState ≠ .established
    ∧ established.params.P < ({ established with pktPlen := 9 } : State).pktPlen.toNat := by
  refine ⟨?_, ?_, ⟨?_, ?_, ?_, ?_, ?_⟩, ⟨?_, ?_, ?_, ?_⟩, ?_, ?_, ?_⟩ <;> decide

theorem witness_RxCommitAppliesTheVerdict :
    busy.rxPend = true ∧ busy.rxAction ≠ .accept ∧ busy.rxAction ≠ .fin
    ∧ ({ busy with rxAction := .accept } : State).rxAction = .accept
    ∧ ({ busy with rxAction := .fin } : State).lcState = .established
    ∧ ({ busy with rxAction := .fin, lcState := .finSent } : State).lcState ≠ .established
    ∧ State.reset.rxPend = false := by
  refine ⟨?_, ?_, ?_, ?_, ?_, ?_, ?_⟩ <;> decide

/-- Classify and commit two DATA packets, the second after the host has written its header. -/
theorem witness_CommittedAcceptsAreInOrder :
    let xs : List Input := [.transaction 0x100010028, .transaction 0x100010029, .transaction 0x100090001,
      .transaction 0x1000AFDFE, .transaction 0x100010028, .transaction 0x100010029]
    let s := withPacket established 0x02 0x00 0xFDFF
    s.rxPend = false ∧ (xs.map Input.issued) = [some .rxClassify, some .rxCommit, some (.regWr 9 1),
      some (.regWr 10 0xFDFE), some .rxClassify, some .rxCommit]
    ∧ committedSeqs xs s = [0, 1] := by
  refine ⟨?_, ?_, ?_⟩ <;> decide

theorem witness_TimerCommands :
    ({ State.reset with tmrReload := 0 } : State).tmrReload = 0
    ∧ ({ State.reset with tmrReload := 1 } : State).tmrReload ≠ 0 := by decide

/-- An idle timer, counts of 2 and 65535, and a count of 1. -/
theorem witness_TickCountsDown :
    (State.withInput State.reset .tick).inputs = .tick :: [] ∧ State.reset.tmrRun = false
    ∧ busy.tmrRun = true ∧ busy.tmrCnt = 1
    ∧ (1 < (2 : Word).toNat ∧ 1 < (0xFFFF : Word).toNat) := by
  refine ⟨?_, ?_, ?_, ?_, ?_⟩ <;> decide

/-- A reload value of 2: one tick, then one more, a WIN_FAIL in between. -/
theorem witness_TimerExpiresOnExactlyTheReloadTick :
    let s : State := { State.reset with tmrReload := 2 }
    let xs : List Input := [.tick, .transaction 0x100010023, .tick]
    s.tmrReload ≠ 0 ∧ after .tmrArm s (fun t => t.tmrCnt) = some 2
    ∧ xs.map Input.issued = [none, some .winFail, none]
    ∧ (xs.take 2).count .tick < s.tmrReload.toNat ∧ s.tmrReload.toNat ≤ xs.count .tick := by
  refine ⟨?_, ?_, ?_, ?_, ?_⟩ <;> decide

end Sys2Proof.Tests
end

