-- ==== Sys2Proof/Proofs/Scope.lean ====
section
/-! PROOFS. The statements of 00_scope.md: what a step runs, and that the parameters are fixed for a run. First what
the decoder can answer, then what an instruction and a step do. -/

namespace Sys2Proof

/-! ## What the decoder can answer -/

/-- A word that decodes to a command is an LC_SET with its operand check passed, an ATT_INC, or an opcode of R85
without argument (R86, R88). -/
theorem decodeCommand_ok_cases (w : BitVec 16) (i : Instr) (h : decodeCommand w = .ok i) :
    (opField w = 0x10 ∧ (argField w).extractLsb' 3 5 = 0 ∧ ((argField w).extractLsb' 0 3).toNat < 6
      ∧ i = .lcSet ((argField w).extractLsb' 0 3))
    ∨ (opField w = 0x15 ∧ (argField w).extractLsb' 1 7 = 0
      ∧ i = .attInc (phaseOfBit ((argField w).extractLsb' 0 1)))
    ∨ (plainCommand (opField w) = some i ∧ argField w = 0) := by
  unfold decodeCommand at h
  simp only at h
  split at h
  next hop =>
    split at h
    · cases h
    next harg =>
      split at h
      · cases h
      next hS => cases h; exact .inl ⟨hop, not_not.mp harg, Nat.lt_of_not_le hS, rfl⟩
  next =>
    split at h
    next hop =>
      split at h
      · cases h
      next harg => cases h; exact .inr (.inl ⟨hop, not_not.mp harg, rfl⟩)
    next =>
      split at h
      next j hj =>
        split at h
        · cases h
        next harg => cases h; exact .inr (.inr ⟨hj, not_not.mp harg⟩)
      · cases h

/-- No opcode of R85 without argument is LC_SET, so none has an operand to check. -/
theorem wellFormed_of_plainCommand (op : BitVec 8) (i : Instr) (h : plainCommand op = some i) :
    i.wellFormed = true := by
  unfold plainCommand at h
  split at h <;> cases h <;> rfl

/-- A legal command word decodes to a well-formed instruction (R86, R87). -/
theorem wellFormed_of_decodeCommand (w : BitVec 16) (c : Instr) (h : decodeCommand w = .ok c) :
    c.wellFormed = true := by
  obtain ⟨_, _, hS, rfl⟩ | ⟨_, _, rfl⟩ | ⟨hp, _⟩ := decodeCommand_ok_cases w c h
  · exact decide_eq_true hS
  · rfl
  · exact wellFormed_of_plainCommand _ c hp

/-- A read transaction decodes only with `DATA` = 0, and then to the read (R91). -/
theorem readOf_eq_ok (data : BitVec 16) (i j : Instr) : readOf data i = .ok j ↔ data = 0 ∧ i = j := by
  unfold readOf
  split <;> simp_all

/-- A transaction word decodes to one of the six host transactions, never to a command (R90). -/
theorem not_isCommand_of_decodeTransaction (w : BitVec 35) (i : Instr) (h : decodeTransaction w = .ok i) :
    i.isCommand = false := by
  unfold decodeTransaction at h
  split at h
  case h_1 | h_3 | h_5 => obtain ⟨_, rfl⟩ := (readOf_eq_ok _ _ _).mp h; rfl
  case h_2 | h_4 | h_6 => cases h; rfl
  case h_7 => cases h

/-- The operands of a host transaction may hold any value of their fields (R92). -/
theorem wellFormed_of_not_isCommand (i : Instr) (h : i.isCommand = false) : i.wellFormed = true := by
  cases i with
  | regRd | regWr | pbRd | pbWr | fbRd | fbWr => rfl
  | _ => cases h

/-- A legal transaction word decodes to a well-formed instruction (R90, R91). -/
theorem wellFormed_of_decodeTransaction (w : BitVec 35) (i : Instr) (h : decodeTransaction w = .ok i) :
    i.wellFormed = true :=
  wellFormed_of_not_isCommand i (not_isCommand_of_decodeTransaction w i h)

/-- The word of KIND 1 is the register write of its fields (R90). -/
theorem decodeTransaction_regWr (addr data : BitVec 16) :
    decodeTransaction (transactionWord 1 addr data) = .ok (.regWr addr data) := by
  simp [decodeTransaction]

namespace Machine

/-! ## What a step runs -/

/-- With no input waiting the block waits (R281). -/
theorem step_of_no_input (s : State) (hs : s.inputs = []) : step s = .next s := by
  rw [step, hs]

/-- A legal transaction word runs the instruction it decodes to (R90, R252). -/
theorem step_of_transaction (s : State) (w : BitVec 35) (rest : List Input) (i : Instr)
    (hs : s.inputs = .transaction w :: rest) (hd : decodeTransaction w = .ok i) :
    step s = exec i (beginTransaction rest s) := by
  rw [step, hs]
  simp only [runTransaction, hd]

/-- A write of `CMD` with a legal command word executes the command (R244). -/
theorem exec_cmdWrite (v : Word) (c : Instr) (s : State) (hd : decodeCommand v = .ok c) :
    exec (.regWr 0x0001 v) s = exec c s :=
  (execRegWr_cmd v s).trans (executeWord_ok v c s hd)

/-- Settles O8: a step is a transaction's `exec`, and for a write of `CMD` that is the command's. -/
theorem stepRunsDecodedInstruction : Obligations.StepRunsDecodedInstruction := by
  refine ⟨fun s w rest i hs hd => ?_, fun s v rest c hs hd => ?_, step_of_no_input⟩
  · exact ⟨wellFormed_of_decodeTransaction w i hd, step_of_transaction s w rest i hs hd⟩
  · have hstep : step s = exec (.regWr 0x0001 v) (beginTransaction rest s) :=
      step_of_transaction s _ rest _ hs (decodeTransaction_regWr 0x0001 v)
    exact ⟨wellFormed_of_decodeCommand v c hd, hstep.trans (exec_cmdWrite v c _ hd)⟩

/-! ## No step writes the parameters -/

/-- What a register write can do (R244, R246): refuse the register, refuse an illegal command word, execute a
command, or store. -/
theorem exec_regWr_next (a d : BitVec 16) (s t : State) (h : exec (.regWr a d) s = .next t) :
    t = raiseError .badReg s
    ∨ (regOfAddress a = some .cmd ∧ (∃ e, decodeCommand d = .error e) ∧ t = raiseError .illegalCmd s)
    ∨ (∃ c, regOfAddress a = some .cmd ∧ decodeCommand d = .ok c ∧ exec c s = .next t)
    ∨ ∃ r, regOfAddress a = some r ∧ regAccess r = .readWrite ∧ (r = .winN → s.winActive = false)
      ∧ t = hostWriteReg r d s := by
  obtain hbad | ⟨ha, hw⟩ | hstore := execRegWr_next a d s t h
  · exact .inl hbad
  · obtain ⟨e, he, ht⟩ | ⟨c, hd, hc⟩ := executeWord_next d s t hw
    · exact .inr (.inl ⟨ha, ⟨e, he⟩, ht⟩)
    · have hx := runCommand_eq_exec c s (isCommand_of_decodeCommand d c hd)
      exact .inr (.inr (.inl ⟨c, ha, hd, hx.symm.trans hc⟩))
  · exact .inr (.inr (.inr hstore))

@[simp] theorem judgeAck_params (s : State) : (judgeAck s).params = s.params := by
  obtain ⟨_, _, _, h⟩ | ⟨_, _, _, _, _, h⟩ | h := judgeAck_cases s <;> simp [h]

@[simp] theorem classify_params (s : State) : (classify s).params = s.params := rfl

@[simp] theorem hardwareReset_params (s : State) : (hardwareReset s).params = s.params := rfl

/-- No command writes the parameters (R9). -/
theorem exec_command_params (c : Instr) (s t : State) (hc : c.isCommand = true) (h : exec c s = .next t) :
    t.params = s.params := by
  cases c with
  | nop | pktClear | errClr | ctxReset | seqReset | seqInc | attClr | attInc | tmrArm | tmrDisarm =>
    cases h; rfl
  | csumGen => obtain ⟨_, rfl⟩ | ⟨_, rfl⟩ := execCsumGen_next s t h <;> simp
  | verify => obtain ⟨_, rfl⟩ | ⟨_, rfl⟩ := execVerify_next s t h <;> simp
  | serialize => obtain ⟨_, rfl⟩ | ⟨_, rfl⟩ := execSerialize_next s t h <;> simp
  | encode => obtain ⟨_, rfl⟩ | ⟨_, rfl⟩ := execEncode_next s t h <;> simp
  | deserialize => obtain ⟨_, rfl⟩ | ⟨_, rfl⟩ | ⟨_, _, rfl⟩ := execDeserialize_next s t h <;> simp
  | decode => obtain ⟨_, rfl⟩ | ⟨_, rfl⟩ | ⟨_, _, rfl⟩ := execDecode_next s t h <;> simp
  | lcSet S =>
    obtain ⟨_, rfl⟩ | ⟨_, _, ⟨_, rfl⟩ | ⟨_, rfl⟩⟩ := execLcSet_next S s t h <;> simp
  | winStart => obtain ⟨_, rfl⟩ | ⟨_, rfl⟩ | ⟨_, _, _, rfl⟩ := execWinStart_next s t h <;> simp
  | winSent => obtain ⟨_, rfl⟩ | ⟨_, rfl⟩ | ⟨_, _, rfl⟩ := execWinSent_next s t h <;> simp
  | winAck => obtain ⟨_, rfl⟩ | ⟨_, rfl⟩ | ⟨_, _, rfl⟩ := execWinAck_next s t h <;> simp
  | winFail => obtain ⟨_, rfl⟩ | ⟨_, rfl⟩ := execWinFail_next s t h <;> simp
  | rxClassify => obtain ⟨_, rfl⟩ | ⟨_, rfl⟩ | ⟨_, _, rfl⟩ := execRxClassify_next s t h <;> simp
  | rxCommit => obtain ⟨_, rfl⟩ | ⟨_, _, rfl⟩ | ⟨_, _, rfl⟩ := execRxCommit_next s t h <;> simp
  | regRd | regWr | pbRd | pbWr | fbRd | fbWr => cases hc

/-- No instruction writes the parameters (R9); a write of `CMD` because the command it executes does not. -/
theorem exec_params (i : Instr) (s t : State) (h : exec i s = .next t) : t.params = s.params := by
  cases hc : i.isCommand with
  | true => exact exec_command_params i s t hc h
  | false =>
    cases i with
    | regRd a => obtain ⟨_, rfl⟩ | ⟨_, _, rfl⟩ := execRegRd_next a s t h <;> simp
    | regWr a d =>
      obtain rfl | ⟨_, _, rfl⟩ | ⟨c, _, hd, hx⟩ | ⟨r, _, _, _, rfl⟩ := exec_regWr_next a d s t h
      · exact raiseError_params s .badReg
      · exact raiseError_params s .illegalCmd
      · exact exec_command_params c s t (isCommand_of_decodeCommand d c hd) hx
      · exact hostWriteReg_params s r d
    | pbRd a => obtain ⟨_, rfl⟩ | ⟨_, rfl⟩ := execPbRd_next a s t h <;> simp
    | pbWr a d => obtain ⟨_, rfl⟩ | ⟨_, rfl⟩ := execPbWr_next a d s t h <;> simp
    | fbRd a => obtain ⟨_, rfl⟩ | ⟨_, rfl⟩ := execFbRd_next a s t h <;> simp
    | fbWr a d => obtain ⟨_, rfl⟩ | ⟨_, rfl⟩ := execFbWr_next a d s t h <;> simp
    | _ => cases hc

/-- No host transaction writes the parameters: one that decodes is an instruction, one that does not is an error
report. -/
theorem runTransaction_params (w : BitVec 35) (s t : State) (h : runTransaction w s = .next t) :
    t.params = s.params := by
  obtain ⟨i, _, hx⟩ | ⟨_, _, rfl⟩ := runTransaction_next w s t h
  · exact exec_params i s t hx
  · exact raiseError_params s .illegalCmd

/-- The parameters are fixed for a run (R9): no transaction, tick or reset writes them. -/
theorem step_params (s t : State) (h : step s = .next t) : t.params = s.params := by
  obtain ⟨_, rfl⟩ | ⟨w, rest, _, hr⟩ | ⟨rest, _, rfl⟩ | ⟨rest, _, rfl⟩ := step_next s t h
  · rfl
  · exact (runTransaction_params w _ t hr).trans (beginTransaction_params s rest)
  · simp
  · simp

/-- `PARAM_P` shows a parameter and nothing else (R26). -/
theorem readReg_paramP_congr (s t : State) (h : t.params = s.params) : readReg t .paramP = readReg s .paramP := by
  simp only [readReg, h]

/-- Settles O11: the parameters are kept by every step, and `PARAM_P` is a function of them. -/
theorem parametersNeverChange : Obligations.ParametersNeverChange := by
  intro s t h
  have hp : t.params = s.params := step_params s t h
  exact ⟨hp, readReg_paramP_congr s t hp⟩

end Machine

end Sys2Proof
end

section
/-! PROOFS. The statements of 10_state.md. First the invariant of the block: each of its clauses is about a few
fields, so an operation keeps the clauses whose fields it leaves alone, and one lemma each says that it keeps the
others. Then the register map, the derived window registers and the bits of `STATUS`. -/

namespace Sys2Proof.Machine

/-! ## The fields each clause of the invariant is about -/

/-- The fields `State.BuffersOk` is about. -/
def State.buffersPart (s : State) : Config.Params × Memory × Memory := (s.params, s.pbuf, s.fbuf)

/-- The fields `State.ErrorReportOk` is about. -/
def State.reportPart (s : State) : Bool × ErrCode := (s.err, s.errcode)

/-- The fields `State.TimerOk` is about. -/
def State.timerPart (s : State) : Bool × Bool × Word := (s.tmrRun, s.tmrExp, s.tmrCnt)

/-- The fields `State.WindowOk` is about. -/
def State.windowPart (s : State) : (Bool × Bool × Bool) × BitVec 9 × BitVec 9 × BitVec 9 × BitVec 2 :=
  ((s.winActive, s.winDone, s.winFailed), s.winN, s.winBase, s.winCursor, s.winWs)

/-- The fields `State.VerdictOk` is about. -/
def State.verdictPart (s : State) : Bool × RxAction × Byte := (s.rxPend, s.rxAction, s.rxAckType)

section Congr

variable {s t : State}

theorem State.BuffersOk.congr (h : s.BuffersOk) (he : t.buffersPart = s.buffersPart) : t.BuffersOk := by
  simp only [State.buffersPart, Prod.mk.injEq] at he
  obtain ⟨hparams, hpbuf, hfbuf⟩ := he
  constructor
  · rw [hpbuf]; exact h.pbuf_wf
  · rw [hpbuf, hparams]; exact h.pbuf_below
  · rw [hfbuf]; exact h.fbuf_wf
  · rw [hfbuf, hparams]; exact h.fbuf_below

theorem State.ErrorReportOk.congr (h : s.ErrorReportOk) (he : t.reportPart = s.reportPart) :
    t.ErrorReportOk := by
  simp only [State.reportPart, Prod.mk.injEq] at he
  obtain ⟨herr, hcode⟩ := he
  rw [State.ErrorReportOk, herr, hcode]
  exact h

theorem State.TimerOk.congr (h : s.TimerOk) (he : t.timerPart = s.timerPart) : t.TimerOk := by
  simp only [State.timerPart, Prod.mk.injEq] at he
  obtain ⟨hrun, hexp, hcnt⟩ := he
  constructor
  · rw [hrun, hcnt]; exact h.run_iff
  · rw [hrun, hexp]; exact h.run_not_expired

theorem State.WindowOk.congr (h : s.WindowOk) (he : t.windowPart = s.windowPart) : t.WindowOk := by
  simp only [State.windowPart, Prod.mk.injEq] at he
  obtain ⟨⟨hactive, hdone, hfailed⟩, hn, hbase, hcursor, hws⟩ := he
  have htop : t.winTop = s.winTop := by simp only [State.winTop, hn, hbase, hws]
  constructor
  · rw [hws]; exact h.size
  · rw [hbase]; exact h.base_le
  · rw [hcursor]; exact h.cursor_le
  · rw [hbase, hcursor]; exact h.base_le_cursor
  · rw [hdone, hfailed]; exact h.not_both
  · rw [hactive, hdone, hfailed]; exact h.active_open
  · rw [hactive, hbase, hn]; exact h.active_count
  · rw [hactive, hcursor, htop]; exact h.active_cursor
  · rw [hactive, hbase, htop, hn]; exact h.active_top

theorem State.VerdictOk.congr (h : s.VerdictOk) (he : t.verdictPart = s.verdictPart) : t.VerdictOk := by
  simp only [State.verdictPart, Prod.mk.injEq] at he
  obtain ⟨hpend, haction, htype⟩ := he
  constructor
  · rw [hpend, haction]; exact h.pending
  · rw [haction, htype]; exact h.response

/-- An operation that leaves every field of the invariant alone keeps it. -/
theorem State.Inv.congr (h : s.Inv) (hb : t.buffersPart = s.buffersPart) (hr : t.reportPart = s.reportPart)
    (ht : t.timerPart = s.timerPart) (hw : t.windowPart = s.windowPart) (hv : t.verdictPart = s.verdictPart) :
    t.Inv := by
  have hparams : t.params = s.params := congrArg Prod.fst hb
  exact ⟨hparams ▸ h.params, h.buffers.congr hb, h.report.congr hr, h.timer.congr ht, h.window.congr hw,
    h.receiver.congr hv⟩

end Congr

/-! ## Error reports -/

/-- A report sets ERR with a code that is not 0: an earlier error's, or the new one's (R31, R262). -/
theorem raiseError_inv (code : ErrCode) (hcode : code ≠ .none) (s : State) (h : s.Inv) :
    (raiseError code s).Inv := by
  refine ⟨h.params, h.buffers.congr rfl, iff_of_true rfl ?_, h.timer.congr rfl, h.window.congr rfl,
    h.receiver.congr rfl⟩
  rw [raiseError_errcode]
  split
  next herr => exact h.report.mp herr
  next => exact hcode

/-- What a host transaction returns is no part of the invariant. -/
theorem reply_inv (v : Option Word) (s : State) (h : s.Inv) : ({ s with reply := v } : State).Inv :=
  h.congr rfl rfl rfl rfl rfl

/-! ## Buffers -/

/-- A store into `PBUF` that stays below P keeps the invariant. -/
theorem storePbuf_inv (a : Nat) (bytes : List Byte) (s : State) (h : s.Inv)
    (hn : a + bytes.length ≤ s.params.P) : ({ s with pbuf := s.pbuf.store a bytes } : State).Inv := by
  refine ⟨h.params, ⟨?_, ?_, h.buffers.fbuf_wf, h.buffers.fbuf_below⟩, h.report.congr rfl, h.timer.congr rfl,
    h.window.congr rfl, h.receiver.congr rfl⟩
  · exact Memory.store_wf _ a bytes h.buffers.pbuf_wf
  · exact Memory.store_below _ a bytes _ h.buffers.pbuf_below hn

/-- A store into `FBUF` that stays below P + 4 keeps the invariant. -/
theorem storeFbuf_inv (a : Nat) (bytes : List Byte) (s : State) (h : s.Inv)
    (hn : a + bytes.length ≤ s.params.P + 4) : ({ s with fbuf := s.fbuf.store a bytes } : State).Inv := by
  refine ⟨h.params, ⟨h.buffers.pbuf_wf, h.buffers.pbuf_below, ?_, ?_⟩, h.report.congr rfl, h.timer.congr rfl,
    h.window.congr rfl, h.receiver.congr rfl⟩
  · exact Memory.store_wf _ a bytes h.buffers.fbuf_wf
  · exact Memory.store_below _ a bytes _ h.buffers.fbuf_below hn

/-! ## The codec unit -/

theorem verifyStep_inv (s : State) (h : s.Inv) : (verifyStep s).Inv := h.congr rfl rfl rfl rfl rfl

theorem csumGenBody_inv (s : State) (h : s.Inv) : (csumGenBody s).Inv := h.congr rfl rfl rfl rfl rfl

/-- The frame SERIALIZE writes fills `FBUF` exactly (R110). -/
theorem serializeBody_inv (s : State) (h : s.Inv) (hlen : s.payloadTooLong = false) : (serializeBody s).Inv := by
  have himage : s.frameImage.length = s.params.P + 4 :=
    frameImage_length s ((payloadTooLong_eq_false s).mp hlen)
  exact (storeFbuf_inv 0 s.frameImage s h (by omega)).congr rfl rfl rfl rfl rfl

/-- The payload DESERIALIZE writes fills `PBUF` exactly (R112). -/
theorem deserializeBody_inv (s : State) (h : s.Inv) (hlen : s.flen.toNat ≤ s.params.P + 4) :
    (deserializeBody s).Inv := by
  have himage : s.payloadImage.length = s.params.P := payloadImage_length s hlen
  exact (storePbuf_inv 0 s.payloadImage s h (by omega)).congr rfl rfl rfl rfl rfl

/-- PKT_CLEAR fills `PBUF` with zeros (R119). -/
theorem execPktClear_inv (s t : State) (h : s.Inv) (hx : execPktClear s = .next t) : t.Inv := by
  cases hx
  exact (storePbuf_inv 0 (List.replicate s.params.P 0x00) s h (by simp)).congr rfl rfl rfl rfl rfl

/-! ## The timer -/

/-- TMR_ARM runs the timer exactly when the reload value is not 0, and reports it expired otherwise (R220, R221). -/
theorem execTmrArm_inv (s t : State) (h : s.Inv) (hx : execTmrArm s = .next t) : t.Inv := by
  cases hx
  refine ⟨h.params, h.buffers.congr rfl, h.report.congr rfl, ⟨?_, ?_⟩, h.window.congr rfl, h.receiver.congr rfl⟩
  · exact decide_eq_true_iff
  · intro hrun
    exact decide_eq_false (of_decide_eq_true hrun)

/-- A stopped timer at count 0. -/
theorem timerOk_of_stopped (s : State) (hrun : s.tmrRun = false) (hcnt : s.tmrCnt = 0) : s.TimerOk := by
  constructor <;> simp [hrun, hcnt]

theorem execTmrDisarm_inv (s t : State) (h : s.Inv) (hx : execTmrDisarm s = .next t) : t.Inv := by
  cases hx
  exact ⟨h.params, h.buffers.congr rfl, h.report.congr rfl, timerOk_of_stopped _ rfl rfl, h.window.congr rfl,
    h.receiver.congr rfl⟩

/-- A tick leaves a stopped timer alone, counts a running one down, or expires it at 0 (R224). -/
theorem timerTick_timerOk (s : State) (h : s.TimerOk) : (timerTick s).TimerOk := by
  obtain ⟨_, ht⟩ | ⟨hrun, hcnt, ht⟩ | ⟨_, _, ht⟩ := timerTick_cases s
  · rw [ht]; exact h
  · rw [ht]; exact ⟨iff_of_true rfl hcnt, fun _ => h.run_not_expired hrun⟩
  · rw [ht]; exact timerOk_of_stopped _ rfl rfl

theorem timerTick_inv (s : State) (h : s.Inv) : (timerTick s).Inv :=
  ⟨by simpa using h.params, h.buffers.congr (by simp [State.buffersPart]),
    h.report.congr (by simp [State.reportPart]), timerTick_timerOk s h.timer,
    h.window.congr (by simp [State.windowPart]), h.receiver.congr (by simp [State.verdictPart])⟩

/-! ## The window -/

/-- Outside a send the window's clauses are the ranges of R52 and R53 and the exclusion of R182. -/
theorem windowOk_of_inactive (s : State) (hactive : s.winActive = false) (hsize : s.winWs = 1 ∨ s.winWs = 2)
    (hcursor : s.winCursor.toNat ≤ 256) (hbase : s.winBase.toNat ≤ s.winCursor.toNat)
    (hboth : ¬ (s.winDone = true ∧ s.winFailed = true)) : s.WindowOk where
  size := hsize
  base_le := hbase.trans hcursor
  cursor_le := hcursor
  base_le_cursor := hbase
  not_both := hboth
  active_open := by simp [hactive]
  active_count := by simp [hactive]
  active_cursor := by simp [hactive]
  active_top := by simp [hactive]

theorem winWs_toNat (s : State) (h : s.winWs = 1 ∨ s.winWs = 2) : s.winWs.toNat = 1 ∨ s.winWs.toNat = 2 := by
  obtain h | h := h <;> simp [h]

/-- While there are chunks past the base, the top is the base or the next index, and a chunk's (R51, R183). -/
theorem winTop_bounds (s : State) (hsize : s.winWs = 1 ∨ s.winWs = 2) (hn : s.winBase.toNat < s.winN.toNat) :
    s.winBase.toNat ≤ s.winTop ∧ s.winTop ≤ s.winBase.toNat + 1 ∧ s.winTop ≤ s.winN.toNat - 1 := by
  have hws := winWs_toNat s hsize
  rw [winTop_of_pos s (by omega)]
  omega

/-- During a send the window's clauses follow from its size, its count, and where the cursor stands (R183). -/
theorem windowOk_of_open (s : State) (hsize : s.winWs = 1 ∨ s.winWs = 2)
    (hn : s.winBase.toNat < s.winN.toNat) (hn' : s.winN.toNat ≤ 256)
    (hcursor : s.winBase.toNat ≤ s.winCursor.toNat) (hcursor' : s.winCursor.toNat ≤ s.winTop + 1)
    (hdone : s.winDone = false) (hfailed : s.winFailed = false) : s.WindowOk := by
  have htop := winTop_bounds s hsize hn
  exact {
    size := hsize
    base_le := by omega
    cursor_le := by omega
    base_le_cursor := hcursor
    not_both := by simp [hdone]
    active_open := fun _ => ⟨hdone, hfailed⟩
    active_count := fun _ => ⟨hn, hn'⟩
    active_cursor := fun _ => hcursor'
    active_top := fun _ => htop }

/-- The 9-bit registers hold every index up to 256 (R52). -/
theorem toNat_index (n : Nat) (h : n ≤ 256) : (BitVec.ofNat 9 n).toNat = n := by
  rw [BitVec.toNat_ofNat]
  omega

/-- Moving the base forward, at most to the end, keeps the window's clauses: at `WIN_N` the send is over, and
before it the cursor is still at most one past the new top (R173, R183). -/
theorem advanceTo_windowOk (b : Nat) (s : State) (h : s.WindowOk) (hactive : s.winActive = true)
    (hb : s.winBase.toNat < b) (hb' : b ≤ s.winN.toNat) : (advanceTo b s).WindowOk := by
  obtain ⟨_, hn⟩ := h.active_count hactive
  obtain ⟨hdone, hfailed⟩ := h.active_open hactive
  have hcursor := h.active_cursor hactive
  obtain ⟨_, htop, htop'⟩ := h.active_top hactive
  have hbase : (advanceTo b s).winBase.toNat = b := toNat_index b (by omega)
  have hcur : (advanceTo b s).winCursor.toNat = max s.winCursor.toNat b := toNat_index _ (by omega)
  by_cases hend : b = s.winN.toNat
  · refine windowOk_of_inactive _ (by simp [hend]) (.inr rfl) ?_ ?_ (by simp [hfailed])
    · rw [hcur]; omega
    · rw [hbase, hcur]; omega
  · have hnew : (advanceTo b s).winTop = min (b + 1) (s.winN.toNat - 1) := by
      rw [winTop_of_pos _ (by rw [advanceTo_winN]; omega), hbase]
      rfl
    refine windowOk_of_open _ (.inr rfl) ?_ hn ?_ ?_ (by simp [hend, hdone]) hfailed
    · rw [hbase, advanceTo_winN]; omega
    · rw [hbase, hcur]; omega
    · rw [hcur, hnew]; omega

/-- A failed wait takes the window back to its base, or ends the send as failed (R173). -/
theorem failWait_windowOk (s : State) (h : s.WindowOk) (hactive : s.winActive = true) :
    (failWait s).WindowOk := by
  obtain ⟨hbase, hn⟩ := h.active_count hactive
  obtain ⟨hdone, hfailed⟩ := h.active_open hactive
  by_cases hlim : s.limData.toNat ≤ (saturatingInc s.winFailcnt).toNat
  · exact windowOk_of_inactive _ (by simp [hlim]) (.inl rfl) h.base_le (le_refl _) (by simp [hdone])
  · have htop := winTop_bounds (failWait s) (.inl rfl) hbase
    exact windowOk_of_open _ (.inl rfl) hbase hn (le_refl _) (Nat.le_succ_of_le htop.1) hdone
      (by simp [hlim, hfailed])

/-- Whatever the frame, the base moves to the next index, to one past the top, or stays (R178). -/
theorem judgeAck_inv (s : State) (h : s.Inv) (hactive : s.winActive = true) : (judgeAck s).Inv := by
  obtain ⟨hbase, _⟩ := h.window.active_count hactive
  obtain ⟨htop, _, htop'⟩ := h.window.active_top hactive
  have hadvance : ∀ b, s.winBase.toNat < b → b ≤ s.winN.toNat → (advanceTo b s).Inv := fun b hb hb' =>
    ⟨h.params, h.buffers.congr rfl, h.report.congr rfl, h.timer.congr rfl,
      advanceTo_windowOk b s h.window hactive hb hb', h.receiver.congr rfl⟩
  obtain ⟨_, _, _, he⟩ | ⟨_, _, _, _, _, he⟩ | he := judgeAck_cases s
  · rw [he]; exact hadvance _ (by omega) (by omega)
  · rw [he]; exact hadvance _ (by omega) (by omega)
  · rw [he]
    exact ⟨h.params, h.buffers.congr rfl, h.report.congr rfl, h.timer.congr rfl,
      failWait_windowOk s h.window hactive, h.receiver.congr rfl⟩

theorem execWinStart_inv (s t : State) (h : s.Inv) (hx : execWinStart s = .next t) : t.Inv := by
  obtain ⟨_, rfl⟩ | ⟨_, rfl⟩ | ⟨_, hn, hn', rfl⟩ := execWinStart_next s t hx
  · exact raiseError_inv _ (by decide) s h
  · exact raiseError_inv _ (by decide) s h
  · exact ⟨h.params, h.buffers.congr rfl, h.report.congr rfl, h.timer.congr rfl,
      windowOk_of_open _ (.inl rfl) hn hn' (le_refl _) (Nat.zero_le _) rfl rfl, h.receiver.congr rfl⟩

/-- WIN_SENT moves a cursor that is at most at the top, so it ends at most one past it (R176). -/
theorem execWinSent_inv (s t : State) (h : s.Inv) (hx : execWinSent s = .next t) : t.Inv := by
  obtain ⟨_, rfl⟩ | ⟨_, rfl⟩ | ⟨hactive, hcursor, rfl⟩ := execWinSent_next s t hx
  · exact raiseError_inv _ (by decide) s h
  · exact raiseError_inv _ (by decide) s h
  · obtain ⟨hn, hn'⟩ := h.window.active_count hactive
    obtain ⟨hdone, hfailed⟩ := h.window.active_open hactive
    have hbase := h.window.base_le_cursor
    have htop := winTop_lt s
    have hmoved : (s.winCursor + 1).toNat = s.winCursor.toNat + 1 := by bv_omega
    refine ⟨h.params, h.buffers.congr rfl, h.report.congr rfl, h.timer.congr rfl,
      windowOk_of_open _ h.window.size hn hn' ?_ ?_ hdone hfailed, h.receiver.congr rfl⟩
    · exact hmoved ▸ Nat.le_succ_of_le hbase
    · exact hmoved ▸ Nat.succ_le_succ hcursor

theorem execWinAck_inv (s t : State) (h : s.Inv) (hx : execWinAck s = .next t) : t.Inv := by
  obtain ⟨_, rfl⟩ | ⟨_, rfl⟩ | ⟨hactive, _, rfl⟩ := execWinAck_next s t hx
  · exact raiseError_inv _ (by decide) s h
  · exact raiseError_inv _ (by decide) s h
  · exact judgeAck_inv _ (verifyStep_inv s h) hactive

theorem execWinFail_inv (s t : State) (h : s.Inv) (hx : execWinFail s = .next t) : t.Inv := by
  obtain ⟨_, rfl⟩ | ⟨hactive, rfl⟩ := execWinFail_next s t hx
  · exact raiseError_inv _ (by decide) s h
  · exact ⟨h.params, h.buffers.congr rfl, h.report.congr rfl, h.timer.congr rfl,
      failWait_windowOk s h.window hactive, h.receiver.congr rfl⟩

/-! ## The receiver -/

/-- A verdict is never NONE, and names no response exactly when it is FIN or PROTO (R201, R203). -/
theorem verdictOf_response (ok : Bool) (t q e : Byte) :
    (verdictOf ok t q e).action ≠ .none
    ∧ ((verdictOf ok t q e).ackType = noResponse
        ↔ (verdictOf ok t q e).action = .fin ∨ (verdictOf ok t q e).action = .proto) := by
  unfold verdictOf
  split_ifs <;> simp [typeDATAACK, typeSYNACK, noResponse]

theorem recordVerdict_inv (v : Verdict) (s : State) (h : s.Inv) (hnone : v.action ≠ .none)
    (hresponse : v.ackType = noResponse ↔ v.action = .fin ∨ v.action = .proto) : (recordVerdict v s).Inv := by
  refine ⟨h.params, h.buffers.congr rfl, h.report.congr rfl, h.timer.congr rfl, h.window.congr rfl,
    fun _ => hnone, ?_⟩
  simpa [hnone] using hresponse

theorem execRxClassify_inv (s t : State) (h : s.Inv) (hx : execRxClassify s = .next t) : t.Inv := by
  obtain ⟨_, rfl⟩ | ⟨_, rfl⟩ | ⟨_, _, rfl⟩ := execRxClassify_next s t hx
  · exact raiseError_inv _ (by decide) s h
  · exact raiseError_inv _ (by decide) s h
  · obtain ⟨hnone, hresponse⟩ := verdictOf_response (verifyStep s).vok s.pktType s.pktSeq s.expSeq
    exact recordVerdict_inv _ _ (verifyStep_inv s h) hnone hresponse

/-- RX_COMMIT leaves the verdict's registers as they are; the verdict is no longer pending (R205). -/
theorem execRxCommit_inv (s t : State) (h : s.Inv) (hx : execRxCommit s = .next t) : t.Inv := by
  obtain ⟨_, rfl⟩ | ⟨_, _, rfl⟩ | ⟨_, _, rfl⟩ := execRxCommit_next s t hx
  · exact raiseError_inv _ (by decide) s h
  · exact raiseError_inv _ (by decide) s h
  · exact ⟨h.params, h.buffers.congr rfl, h.report.congr rfl, h.timer.congr rfl, h.window.congr rfl,
      (nomatch ·), h.receiver.response⟩

/-! ## Control and context -/

theorem execErrClr_inv (s t : State) (h : s.Inv) (hx : execErrClr s = .next t) : t.Inv := by
  cases hx
  exact ⟨h.params, h.buffers.congr rfl, by simp [State.ErrorReportOk], h.timer.congr rfl, h.window.congr rfl,
    h.receiver.congr rfl⟩

theorem execLcSet_inv (S : BitVec 3) (s t : State) (h : s.Inv) (hx : execLcSet S s = .next t) : t.Inv := by
  obtain ⟨_, rfl⟩ | ⟨_, _, ⟨_, rfl⟩ | ⟨_, rfl⟩⟩ := execLcSet_next S s t hx
  · exact raiseError_inv _ (by decide) s h
  · exact h.congr rfl rfl rfl rfl rfl
  · exact raiseError_inv _ (by decide) s h

/-- An idle window, as a reset and CTX_RESET leave it. -/
theorem windowOk_of_idle (s : State) (h : s.windowPart = ((false, false, false), 0, 0, 0, 1)) : s.WindowOk := by
  simp only [State.windowPart, Prod.mk.injEq] at h
  obtain ⟨⟨hactive, hdone, _⟩, _, hbase, hcursor, hws⟩ := h
  exact windowOk_of_inactive s hactive (.inl hws) (by simp [hcursor]) (by simp [hbase]) (by simp [hdone])

/-- No verdict, as a reset and CTX_RESET leave the receiver. -/
theorem verdictOk_of_none (s : State) (h : s.verdictPart = (false, .none, noResponse)) : s.VerdictOk := by
  simp only [State.verdictPart, Prod.mk.injEq] at h
  obtain ⟨hpend, haction, htype⟩ := h
  exact ⟨by simp [hpend], by simp [haction, htype]⟩

theorem execCtxReset_inv (s t : State) (h : s.Inv) (hx : execCtxReset s = .next t) : t.Inv := by
  cases hx
  exact ⟨h.params, h.buffers.congr rfl, h.report.congr rfl, timerOk_of_stopped _ rfl rfl, windowOk_of_idle _ rfl,
    verdictOk_of_none _ rfl⟩

/-! ## Commands and host transactions -/

/-- No command breaks the invariant. -/
theorem exec_command_inv (c : Instr) (s t : State) (hc : c.isCommand = true) (h : s.Inv)
    (hx : exec c s = .next t) : t.Inv := by
  cases c with
  | nop => cases hx; exact h
  | seqReset | seqInc | attClr | attInc => cases hx; exact h.congr rfl rfl rfl rfl rfl
  | csumGen =>
    obtain ⟨_, rfl⟩ | ⟨_, rfl⟩ := execCsumGen_next s t hx
    · exact raiseError_inv _ (by decide) s h
    · exact csumGenBody_inv s h
  | verify =>
    obtain ⟨_, rfl⟩ | ⟨_, rfl⟩ := execVerify_next s t hx
    · exact raiseError_inv _ (by decide) s h
    · exact verifyStep_inv s h
  | serialize =>
    obtain ⟨_, rfl⟩ | ⟨hlen, rfl⟩ := execSerialize_next s t hx
    · exact raiseError_inv _ (by decide) s h
    · exact serializeBody_inv s h hlen
  | encode =>
    obtain ⟨_, rfl⟩ | ⟨hlen, rfl⟩ := execEncode_next s t hx
    · exact raiseError_inv _ (by decide) s h
    · exact serializeBody_inv _ (csumGenBody_inv s h) hlen
  | deserialize =>
    obtain ⟨_, rfl⟩ | ⟨_, rfl⟩ | ⟨_, hlen, rfl⟩ := execDeserialize_next s t hx
    · exact raiseError_inv _ (by decide) s h
    · exact raiseError_inv _ (by decide) s h
    · exact deserializeBody_inv s h hlen
  | decode =>
    obtain ⟨_, rfl⟩ | ⟨_, rfl⟩ | ⟨_, hlen, rfl⟩ := execDecode_next s t hx
    · exact raiseError_inv _ (by decide) s h
    · exact raiseError_inv _ (by decide) s h
    · exact verifyStep_inv _ (deserializeBody_inv s h hlen)
  | pktClear => exact execPktClear_inv s t h hx
  | errClr => exact execErrClr_inv s t h hx
  | lcSet S => exact execLcSet_inv S s t h hx
  | ctxReset => exact execCtxReset_inv s t h hx
  | winStart => exact execWinStart_inv s t h hx
  | winSent => exact execWinSent_inv s t h hx
  | winAck => exact execWinAck_inv s t h hx
  | winFail => exact execWinFail_inv s t h hx
  | rxClassify => exact execRxClassify_inv s t h hx
  | rxCommit => exact execRxCommit_inv s t h hx
  | tmrArm => exact execTmrArm_inv s t h hx
  | tmrDisarm => exact execTmrDisarm_inv s t h hx
  | regRd | regWr | pbRd | pbWr | fbRd | fbWr => cases hc

theorem hostWriteReg_winN_of_ne (r : Reg) (v : Word) (s : State) (hr : r ≠ .winN) :
    (hostWriteReg r v s).winN = s.winN := by
  cases r with
  | winN => exact absurd rfl hr
  | _ => rfl

/-- Of the fields of the invariant a register write reaches `WIN_N` alone, and that only outside a send (R246). -/
theorem hostWriteReg_inv (r : Reg) (v : Word) (s : State) (h : s.Inv)
    (hwin : r = .winN → s.winActive = false) : (hostWriteReg r v s).Inv := by
  have hwindow : (hostWriteReg r v s).WindowOk := by
    by_cases hr : r = .winN
    · exact windowOk_of_inactive _ (by simp [hwin hr]) (by simpa using h.window.size)
        (by simpa using h.window.cursor_le) (by simpa using h.window.base_le_cursor)
        (by simpa using h.window.not_both)
    · exact h.window.congr (by simp [State.windowPart, hostWriteReg_winN_of_ne r v s hr])
  exact ⟨by simpa using h.params, h.buffers.congr (by simp [State.buffersPart]),
    h.report.congr (by simp [State.reportPart]), h.timer.congr (by simp [State.timerPart]), hwindow,
    h.receiver.congr (by simp [State.verdictPart])⟩

/-- No instruction breaks the invariant; a write of `CMD` because the command it executes does not. -/
theorem exec_inv (i : Instr) (s t : State) (h : s.Inv) (hx : exec i s = .next t) : t.Inv := by
  cases hc : i.isCommand with
  | true => exact exec_command_inv i s t hc h hx
  | false =>
    cases i with
    | regRd a =>
      obtain ⟨_, rfl⟩ | ⟨_, _, rfl⟩ := execRegRd_next a s t hx
      · exact reply_inv _ _ (raiseError_inv _ (by decide) s h)
      · exact reply_inv _ s h
    | regWr a d =>
      obtain rfl | ⟨_, _, rfl⟩ | ⟨c, _, hd, hcmd⟩ | ⟨r, _, _, hwin, rfl⟩ := exec_regWr_next a d s t hx
      · exact raiseError_inv _ (by decide) s h
      · exact raiseError_inv _ (by decide) s h
      · exact exec_command_inv c s t (isCommand_of_decodeCommand d c hd) h hcmd
      · exact hostWriteReg_inv r d s h hwin
    | pbRd a =>
      obtain ⟨_, rfl⟩ | ⟨_, rfl⟩ := execPbRd_next a s t hx
      · exact reply_inv _ _ (raiseError_inv _ (by decide) s h)
      · exact reply_inv _ s h
    | pbWr a d =>
      obtain ⟨_, rfl⟩ | ⟨ha, rfl⟩ := execPbWr_next a d s t hx
      · exact raiseError_inv _ (by decide) s h
      · exact (storePbuf_inv a.toNat [d.extractLsb' 0 8] s h ha).congr rfl rfl rfl rfl rfl
    | fbRd a =>
      obtain ⟨_, rfl⟩ | ⟨_, rfl⟩ := execFbRd_next a s t hx
      · exact reply_inv _ _ (raiseError_inv _ (by decide) s h)
      · exact reply_inv _ s h
    | fbWr a d =>
      obtain ⟨_, rfl⟩ | ⟨ha, rfl⟩ := execFbWr_next a d s t hx
      · exact raiseError_inv _ (by decide) s h
      · exact storeFbuf_inv a.toNat [d.extractLsb' 0 8] s h ha
    | _ => cases hc

/-! ## Steps -/

theorem runTransaction_inv (w : BitVec 35) (s t : State) (h : s.Inv) (hx : runTransaction w s = .next t) :
    t.Inv := by
  obtain ⟨i, _, hi⟩ | ⟨_, _, rfl⟩ := runTransaction_next w s t hx
  · exact exec_inv i s t h hi
  · exact reply_inv _ _ (raiseError_inv _ (by decide) s h)

/-- The reset values meet every clause, for any legal parameters (R291). -/
theorem init_inv (p : Config.Params) (hp : p.legal) : (State.init p).Inv where
  params := hp
  buffers := ⟨List.Pairwise.nil, by simp [State.init], List.Pairwise.nil, by simp [State.init]⟩
  report := by simp [State.ErrorReportOk, State.init]
  timer := timerOk_of_stopped _ rfl rfl
  window := windowOk_of_idle _ rfl
  receiver := verdictOk_of_none _ rfl

theorem hardwareReset_inv (s : State) (h : s.Inv) : (hardwareReset s).Inv :=
  (init_inv s.params h.params).congr rfl rfl rfl rfl rfl

/-- Settles O14: a step takes its input off the queue, which no clause is about, and then runs a transaction, a
tick or a reset, each of which keeps the invariant. -/
theorem everyStepKeepsInvariant : Obligations.EveryStepKeepsInvariant := by
  intro s t h hstep
  obtain ⟨_, rfl⟩ | ⟨w, rest, _, hr⟩ | ⟨rest, _, rfl⟩ | ⟨rest, _, rfl⟩ := step_next s t hstep
  · exact h
  · have hbegin : (beginTransaction rest s).Inv := h.congr rfl rfl rfl rfl rfl
    exact runTransaction_inv w _ t hbegin hr
  · exact timerTick_inv _ (h.congr rfl rfl rfl rfl rfl)
  · exact hardwareReset_inv _ (h.congr rfl rfl rfl rfl rfl)

/-! ## Register accesses -/

/-- REG_RD of an implemented register returns what the register reads as, and changes nothing else (R245). -/
theorem exec_regRd_of_reg (s : State) (r : Reg) (a : BitVec 16) (hr : regOfAddress a = some r) :
    exec (.regRd a) s = .next { s with reply := some (readReg s r) } := by
  simp only [exec, execRegRd, hr, answer]

theorem exec_regRd_of_none (s : State) (a : BitVec 16) (hr : regOfAddress a = none) :
    exec (.regRd a) s = .next { raiseError .badReg s with reply := some 0 } := by
  simp only [exec, execRegRd, hr, refuseRead]

theorem exec_regWr_of_none (s : State) (a v : BitVec 16) (hr : regOfAddress a = none) :
    exec (.regWr a v) s = .next (raiseError .badReg s) := by
  simp only [exec, execRegWr, hr, refuseWith]

/-- REG_WR of a read-only register is refused (R246). -/
theorem exec_regWr_of_readOnly (s : State) (r : Reg) (a v : BitVec 16) (hr : regOfAddress a = some r)
    (hro : regAccess r = .readOnly) : exec (.regWr a v) s = .next (raiseError .badReg s) := by
  simp only [exec, execRegWr, hr, hro, if_true, refuseWith]

/-- REG_WR of a register the host may write stores it, but for `WIN_N` during a send (R246). -/
theorem exec_regWr_of_readWrite (s : State) (r : Reg) (a v : BitVec 16) (hr : regOfAddress a = some r)
    (hrw : regAccess r = .readWrite) (hwin : r = .winN → s.winActive = false) :
    exec (.regWr a v) s = .next (hostWriteReg r v s) := by
  have hcmd : r ≠ .cmd := by rintro rfl; cases hrw
  have hsend : ¬ (r = .winN ∧ s.winActive = true) := fun ⟨hn, hactive⟩ => by simp [hwin hn] at hactive
  simp only [exec, execRegWr, hr, hrw, hcmd, hsend, if_false, reduceCtorEq]

theorem exec_regWr_winN_of_active (s : State) (v : Word) (hactive : s.winActive = true) :
    exec (.regWr 0x20 v) s = .next (raiseError .badReg s) := by
  have hr : regOfAddress 0x20 = some .winN := rfl
  simp only [exec, execRegWr, hr, hactive, regAccess, and_self, if_true, ite_self, refuseWith]

/-- Settles O19: each of the 30 indices names its register, whose value `readReg` gives. -/
theorem registerMapReads : Obligations.RegisterMapReads := by
  intro s
  have reads := exec_regRd_of_reg s
  exact ⟨reads .paramP _ rfl, reads .cmd _ rfl, reads .status _ rfl, reads .errcode _ rfl, reads .ien _ rfl,
    reads .pktType _ rfl, reads .pktSeq _ rfl, reads .pktCsum _ rfl, reads .pktPlen _ rfl,
    reads .csumCalc _ rfl, reads .flen _ rfl,
    reads .lcState _ rfl, reads .expSeq _ rfl, reads .attCnt _ rfl, reads .limConnect _ rfl,
    reads .limClose _ rfl, reads .limData _ rfl,
    reads .rxAction _ rfl, reads .rxAckType _ rfl, reads .rxAckSeq _ rfl,
    reads .winN _ rfl, reads .winBase _ rfl, reads .winTop _ rfl, reads .winCursor _ rfl, reads .winWs _ rfl,
    reads .winFailcnt _ rfl, reads .winAnchor _ rfl, reads .winNextSeq _ rfl,
    reads .tmrReload _ rfl, reads .tmrCnt _ rfl⟩

/-- REG_RD of `ERRCODE` returns the number of the error held (R31, R260). -/
theorem exec_regRd_errcode (s : State) (c : ErrCode) :
    exec (.regRd 0x03) { s with errcode := c }
      = .next { s with errcode := c, reply := some (BitVec.ofNat 16 (errorCode c)) } :=
  exec_regRd_of_reg _ .errcode _ rfl

/-- REG_RD of `RX_ACTION` returns the number of the classification held (R42). -/
theorem exec_regRd_rxAction (s : State) (x : RxAction) :
    exec (.regRd 0x18) { s with rxAction := x }
      = .next { s with rxAction := x, reply := some (BitVec.ofNat 16 (rxActionCode x)) } :=
  exec_regRd_of_reg _ .rxAction _ rfl

/-- Settles O60: the two registers read as the codes of R260 and R42, error by error and class by class. -/
theorem errorAndVerdictCodesReadAsNumbers : Obligations.ErrorAndVerdictCodesReadAsNumbers := by
  intro s
  have code := exec_regRd_errcode s
  have action := exec_regRd_rxAction s
  exact ⟨code .none, code .illegalCmd, code .framing, code .oversize, code .notEstablished, code .badTransition,
    code .winInactive, code .noSendSlot, code .badCount, code .noPending, code .badReg, code .badAddr,
    action .none, action .accept, action .stale, action .nackCsum, action .nackGap, action .syn, action .fin,
    action .proto⟩

/-- Settles O21: a write stores through `hostWriteReg`, which keeps the implemented bits and clears VOK for the
packet register set. -/
theorem registerWritesStoreImplementedBits : Obligations.RegisterWritesStoreImplementedBits := by
  intro s v
  have writes : ∀ (r : Reg) (a : BitVec 16), regOfAddress a = some r → regAccess r = .readWrite → r ≠ .winN →
      exec (.regWr a v) s = .next (hostWriteReg r v s) := fun r a hr hrw hn =>
    exec_regWr_of_readWrite s r a v hr hrw (absurd · hn)
  exact ⟨writes .ien _ rfl rfl nofun, writes .pktType _ rfl rfl nofun, writes .pktSeq _ rfl rfl nofun,
    writes .pktCsum _ rfl rfl nofun, writes .pktPlen _ rfl rfl nofun, writes .flen _ rfl rfl nofun,
    writes .limConnect _ rfl rfl nofun, writes .limClose _ rfl rfl nofun, writes .limData _ rfl rfl nofun,
    writes .tmrReload _ rfl rfl nofun,
    fun hidle => exec_regWr_of_readWrite s .winN _ v rfl rfl (fun _ => hidle), exec_regWr_winN_of_active s v⟩

/-- The addresses of R24's read-only registers. -/
def readOnlyAddresses : List (BitVec 16) :=
  [0x00, 0x02, 0x03, 0x0C, 0x10, 0x11, 0x12, 0x18, 0x19, 0x1A, 0x21, 0x22, 0x23, 0x24, 0x25, 0x26, 0x27, 0x29]

theorem regOfAddress_of_readOnly (a : BitVec 16) (ha : a ∈ readOnlyAddresses) :
    ∃ r, regOfAddress a = some r ∧ regAccess r = .readOnly := by
  have hall : readOnlyAddresses.all (fun a => (regOfAddress a).map regAccess == some .readOnly) = true := by
    decide
  have haccess := beq_iff_eq.mp (List.all_eq_true.mp hall a ha)
  exact Option.map_eq_some_iff.mp haccess

/-- Settles O22: R24 gives each of the 18 registers read-only access. -/
theorem readOnlyRegistersRefuseWrites : Obligations.ReadOnlyRegistersRefuseWrites := by
  intro s v a ha
  obtain ⟨r, hr, hro⟩ := regOfAddress_of_readOnly a ha
  exact exec_regWr_of_readOnly s r a v hr hro

/-- The indices of R24's table. -/
def mappedIndices : List (BitVec 6) :=
  [0x00, 0x01, 0x02, 0x03, 0x04, 0x08, 0x09, 0x0A, 0x0B, 0x0C, 0x0D, 0x10, 0x11, 0x12, 0x13, 0x14,
    0x15, 0x18, 0x19, 0x1A, 0x20, 0x21, 0x22, 0x23, 0x24, 0x25, 0x26, 0x27, 0x28, 0x29]

/-- An index that is not in R24's table is reserved (R25). -/
theorem regOfIndex_of_not_mapped : ∀ i : BitVec 6, i ∉ mappedIndices → regOfIndex i = none := by
  decide

/-- An address outside the register space names no register (R61, R92). -/
theorem regOfAddress_of_out_of_range (a : BitVec 16)
    (h : a.extractLsb' 6 10 ≠ 0 ∨ a.extractLsb' 0 6 ∉ mappedIndices) : regOfAddress a = none := by
  unfold regOfAddress
  split
  · rfl
  next hhigh => exact regOfIndex_of_not_mapped _ (h.resolve_left hhigh)

/-- Settles O20: outside its space's range each access takes its error branch, and a read returns 0. -/
theorem outOfRangeAccessesRefused : Obligations.OutOfRangeAccessesRefused := by
  refine fun s a d => ⟨fun h => ?_, fun h => ?_, fun h => ?_⟩
  · have hr : regOfAddress a = none := regOfAddress_of_out_of_range a h
    exact ⟨exec_regRd_of_none s a hr, exec_regWr_of_none s a d hr⟩
  · exact ⟨if_pos h, if_pos h⟩
  · exact ⟨if_pos h, if_pos h⟩

/-! ## The derived window registers -/

/-- `WIN_TOP` is read in full: it is below 511, so the 16 bits of a read hold it (R51). -/
theorem readReg_winTop_toNat (s : State) : (readReg s .winTop).toNat = s.winTop := by
  have htop := winTop_lt s
  simp only [readReg, BitVec.toNat_ofNat]
  omega

/-- The sequence number of a chunk is the anchor's plus its index, modulo 256 (R15, R170). -/
theorem seqw_toNat (s : State) (i : Nat) : (s.seqw i).toNat = (s.winAnchor.toNat + i) % 256 := by
  simp [State.seqw]

/-- Settles O24: `WIN_TOP` is the minimum of R51 without loss in 16 bits, and `WIN_NEXTSEQ` is `seqw` of the
cursor. -/
theorem derivedWindowRegisters : Obligations.DerivedWindowRegisters := by
  intro s
  have htop := readReg_winTop_toNat s
  refine ⟨fun hn => ?_, fun hn _ => ⟨?_, ?_⟩, ?_⟩
  · rw [htop, State.winTop, if_pos hn]
  · rw [htop, winTop_of_pos s hn]
  · have := winTop_lt s
    omega
  · calc (readReg s .winNextSeq).toNat = s.winNextSeq.toNat :=
          BitVec.toNat_setWidth_of_le (by decide)
      _ = (s.winAnchor.toNat + s.winCursor.toNat) % 256 := seqw_toNat s _

/-! ## The bits of STATUS -/

/-- The number whose binary digits a list gives, the lowest first. -/
def numberOfBits : List Bool → Nat
  | [] => 0
  | b :: bs => bit b + 2 * numberOfBits bs

/-- The bits of `STATUS` from bit 0 up (R28). -/
def State.statusBits (s : State) : List Bool :=
  [s.vok, s.err, s.tmrRun, s.tmrExp, s.winActive, s.winDone, s.winFailed, s.winCanSend, s.attExh, s.rxPend,
    s.typeValid, s.irq]

theorem testBit_numberOfBits (bs : List Bool) : ∀ i, (numberOfBits bs).testBit i = bs.getD i false := by
  induction bs with
  | nil => simp [numberOfBits]
  | cons b bs ih =>
    have hbit : numberOfBits (b :: bs) = Nat.bit b (numberOfBits bs) := by
      cases b <;> simp [numberOfBits, bit, Nat.bit, Nat.add_comm]
    intro i
    cases i with
    | zero => rw [hbit, Nat.testBit_bit_zero]; rfl
    | succ i => rw [hbit, Nat.testBit_bit_succ, ih]; rfl

/-- `STATUS` is the word of its bits. -/
theorem statusWord_eq (s : State) : s.statusWord = BitVec.ofNat 16 (numberOfBits s.statusBits) := by
  rw [State.statusWord]
  refine congrArg (BitVec.ofNat 16) ?_
  simp only [numberOfBits, State.statusBits]
  ring

theorem statusWord_getLsbD (s : State) (i : Nat) (hi : i < 16) :
    s.statusWord.getLsbD i = s.statusBits.getD i false := by
  rw [statusWord_eq, BitVec.getLsbD_ofNat, testBit_numberOfBits, decide_eq_true hi, Bool.true_and]

/-- Bits 15 to 12 are past the list, so they read 0 (R28). -/
theorem statusWord_reserved (s : State) : s.statusWord.extractLsb' 12 4 = 0 := by
  apply BitVec.eq_of_getLsbD_eq
  intro i hi
  have hpast : s.statusBits.length ≤ 12 + i := Nat.le_add_right 12 i
  rw [BitVec.getLsbD_extractLsb', statusWord_getLsbD s _ (by omega), List.getD_eq_default _ _ hpast]
  simp

theorem winCanSend_iff (s : State) : s.winCanSend = true ↔ s.winActive = true ∧ s.winCursor.toNat ≤ s.winTop := by
  simp [State.winCanSend]

theorem typeValid_iff (s : State) : s.typeValid = true ↔ s.pktType.toNat ≤ 0x05 := by
  simp [State.typeValid]

theorem irq_iff (s : State) :
    s.irq = true ↔ (s.ien.getLsbD 0 = true ∧ s.tmrExp = true) ∨ (s.ien.getLsbD 1 = true ∧ s.err = true)
      ∨ (s.ien.getLsbD 2 = true ∧ (s.winDone = true ∨ s.winFailed = true)) := by
  simp [State.irq, or_assoc]

/-- Settles O23: bit `i` of `STATUS` is entry `i` of its list of bits, and the derived entries are R29's. -/
theorem statusBitsAndInterruptLine : Obligations.StatusBitsAndInterruptLine := by
  intro s
  have hbit := statusWord_getLsbD s
  refine ⟨hbit 0 (by decide), hbit 1 (by decide), hbit 2 (by decide), hbit 3 (by decide), hbit 4 (by decide),
    hbit 5 (by decide), hbit 6 (by decide), ?_, hbit 8 (by decide), hbit 9 (by decide), ?_, hbit 11 (by decide),
    statusWord_reserved s, irq_iff s⟩
  · rw [hbit 7 (by decide)]; exact winCanSend_iff s
  · rw [hbit 10 (by decide)]; exact typeValid_iff s

end Sys2Proof.Machine
end

section
/-! PROOFS. The statements of 20_memory.md: the buffer transactions within the range of their buffer. First what a
byte of a buffer reads as after a store of one byte, then the four accesses. -/

namespace Sys2Proof.Machine

/-! ## A byte after a store -/

/-- Where nothing was stored, a byte never written stays the free value of the same reset count (R40). -/
theorem pbufByte_of_store_byte (s t : State) (a : Nat) (b : Byte) (hbuf : t.pbuf = s.pbuf.store a [b])
    (hresets : t.resets = s.resets) (j : Nat) : t.pbufByte j = if j = a then b else s.pbufByte j := by
  rw [State.pbufByte, hbuf, hresets, Memory.get?_store_byte]
  split
  · exact Option.getD_some
  · rfl

/-- The same of the frame buffer (R41). -/
theorem fbufByte_of_store_byte (s t : State) (a : Nat) (b : Byte) (hbuf : t.fbuf = s.fbuf.store a [b])
    (hresets : t.resets = s.resets) (j : Nat) : t.fbufByte j = if j = a then b else s.fbufByte j := by
  rw [State.fbufByte, hbuf, hresets, Memory.get?_store_byte]
  split
  · exact Option.getD_some
  · rfl

/-! ## The four accesses within the range -/

section
variable (s : State) (a d : BitVec 16)

theorem exec_pbRd_of_lt (h : a.toNat < s.params.P) :
    exec (.pbRd a) s = .next { s with reply := some ((s.pbufByte a.toNat).setWidth 16) } :=
  if_neg (Nat.not_le_of_lt h)

theorem exec_pbWr_of_lt (h : a.toNat < s.params.P) :
    exec (.pbWr a d) s
      = .next { s with pbuf := s.pbuf.store a.toNat [d.extractLsb' 0 8], vok := false } :=
  if_neg (Nat.not_le_of_lt h)

theorem exec_fbRd_of_lt (h : a.toNat < s.params.P + 4) :
    exec (.fbRd a) s = .next { s with reply := some ((s.fbufByte a.toNat).setWidth 16) } :=
  if_neg (Nat.not_le_of_lt h)

theorem exec_fbWr_of_lt (h : a.toNat < s.params.P + 4) :
    exec (.fbWr a d) s = .next { s with fbuf := s.fbuf.store a.toNat [d.extractLsb' 0 8] } :=
  if_neg (Nat.not_le_of_lt h)

end

/-- Settles O25: within the range both accesses pass their check, and PB_WR is a store of one byte. -/
theorem payloadBufferTransactions : Obligations.PayloadBufferTransactions := by
  refine ⟨rfl, rfl, fun s i d hi => ⟨exec_pbRd_of_lt s i hi, _, exec_pbWr_of_lt s i d hi, rfl, ?_⟩⟩
  exact pbufByte_of_store_byte s _ i.toNat (d.extractLsb' 0 8) rfl rfl

/-- Settles O26: within the range both accesses pass their check, and FB_WR is a store of one byte that leaves
`FLEN` and VOK alone. -/
theorem frameBufferTransactions : Obligations.FrameBufferTransactions := by
  refine ⟨rfl, rfl, fun s i d hi => ⟨exec_fbRd_of_lt s i hi, _, exec_fbWr_of_lt s i d hi, rfl, ?_⟩⟩
  exact fbufByte_of_store_byte s _ i.toNat (d.extractLsb' 0 8) rfl rfl

end Sys2Proof.Machine
end

section
/-! PROOFS. The statements of 30_encoding.md: the two formats, the opcode map and the opcode table. First a word is
its fields, then what the decoder answers for a word made of fields; encoding, decoding and the table are compared
field by field. -/

namespace Sys2Proof

/-! ## A word is its fields -/

theorem commandWord_fields (w : BitVec 16) : commandWord (argField w) (opField w) = w :=
  BitVec.extractLsb'_append_extractLsb' (len := 8) (w := 8)

theorem commandWord_inj (arg arg' op op' : BitVec 8) :
    commandWord arg op = commandWord arg' op' ↔ arg = arg' ∧ op = op' := by
  constructor
  · intro h
    exact ⟨by simpa using congrArg argField h, by simpa using congrArg opField h⟩
  · rintro ⟨rfl, rfl⟩; rfl

/-- A mask acts on the two fields of a command word apart. -/
theorem and_commandWord (w : BitVec 16) (arg op : BitVec 8) :
    w &&& commandWord arg op = commandWord (argField w &&& arg) (opField w &&& op) :=
  calc w &&& commandWord arg op
      = commandWord (argField w) (opField w) &&& commandWord arg op := by rw [commandWord_fields]
    _ = commandWord (argField w &&& arg) (opField w &&& op) := BitVec.and_append

theorem transactionWord_fields (w : BitVec 35) :
    transactionWord (kindField w) (addrField w) (dataField w) = w := by
  apply BitVec.eq_of_toNat_eq
  have := w.isLt
  simp only [toNat_transactionWord, kindField, addrField, dataField, BitVec.extractLsb'_toNat,
    Nat.shiftRight_eq_div_pow]
  omega

theorem transactionWord_inj (k k' : BitVec 3) (a a' d d' : BitVec 16) :
    transactionWord k a d = transactionWord k' a' d' ↔ k = k' ∧ a = a' ∧ d = d' := by
  constructor
  · intro h
    exact ⟨by simpa using congrArg kindField h, by simpa using congrArg addrField h,
      by simpa using congrArg dataField h⟩
  · rintro ⟨rfl, rfl, rfl⟩; rfl

/-- A mask acts on the three fields of a transaction word apart. -/
theorem and_transactionWord (w : BitVec 35) (k : BitVec 3) (a d : BitVec 16) :
    w &&& transactionWord k a d
      = transactionWord (kindField w &&& k) (addrField w &&& a) (dataField w &&& d) :=
  calc w &&& transactionWord k a d
      = transactionWord (kindField w) (addrField w) (dataField w) &&& transactionWord k a d := by
        rw [transactionWord_fields]
    _ = transactionWord (kindField w &&& k) (addrField w &&& a) (dataField w &&& d) :=
        BitVec.and_append.trans (congrArg (· ++ (dataField w &&& d)) BitVec.and_append)

/-- A field of `ARG` read in the word itself. -/
theorem extractLsb'_argField (w : BitVec 16) (start len : Nat) (h : start + len ≤ 8) :
    (argField w).extractLsb' start len = w.extractLsb' (8 + start) len := by
  ext i hi
  have hlt : start + i < 8 := by omega
  simp [argField, hlt, Nat.add_assoc]

/-! ## The opcode map -/

/-- The opcodes of R85 without argument, each with its command. -/
def plainOpcodes : List (BitVec 8 × Instr) :=
  [(0x00, .nop), (0x01, .csumGen), (0x02, .verify), (0x03, .serialize), (0x04, .deserialize), (0x05, .encode),
    (0x06, .decode), (0x07, .pktClear), (0x08, .errClr), (0x11, .ctxReset), (0x12, .seqReset), (0x13, .seqInc),
    (0x14, .attClr), (0x20, .winStart), (0x21, .winSent), (0x22, .winAck), (0x23, .winFail),
    (0x28, .rxClassify), (0x29, .rxCommit), (0x30, .tmrArm), (0x31, .tmrDisarm)]

/-- All opcodes of R85, LC_SET (0x10) and ATT_INC (0x15) among them. -/
def listedOpcodes : List (BitVec 8) :=
  [0x00, 0x01, 0x02, 0x03, 0x04, 0x05, 0x06, 0x07, 0x08, 0x10, 0x11, 0x12, 0x13, 0x14, 0x15,
    0x20, 0x21, 0x22, 0x23, 0x28, 0x29, 0x30, 0x31]

theorem plainCommand_of_mem : ∀ p ∈ plainOpcodes, plainCommand p.1 = some p.2 := by decide

theorem mem_plainOpcodes_of_plainCommand (op : BitVec 8) (i : Instr) (h : plainCommand op = some i) :
    (op, i) ∈ plainOpcodes := by
  have hall : ∀ op : BitVec 8, (plainCommand op).all (fun i => (op, i) ∈ plainOpcodes) = true := by decide
  simpa [h] using hall op

/-- An opcode is reserved when it is neither of the two with an argument nor one of those without. -/
theorem not_mem_listedOpcodes_iff :
    ∀ op : BitVec 8, op ∉ listedOpcodes ↔ op ≠ 0x10 ∧ op ≠ 0x15 ∧ plainCommand op = none := by
  decide

/-- Every command is an opcode without argument, an LC_SET or an ATT_INC (R85, R86). -/
theorem isCommand_cases (i : Instr) (h : i.isCommand = true) :
    (∃ p ∈ plainOpcodes, i = p.2) ∨ (∃ S, i = .lcSet S) ∨ ∃ PH, i = .attInc PH := by
  cases i with
  | lcSet S => exact .inr (.inl ⟨S, rfl⟩)
  | attInc PH => exact .inr (.inr ⟨PH, rfl⟩)
  | regRd | regWr | pbRd | pbWr | fbRd | fbWr => cases h
  | _ => exact .inl (by decide)

theorem encode_of_mem_plainOpcodes :
    ∀ p ∈ plainOpcodes, encode p.2 = .command (commandWord 0 p.1) := by
  decide

/-! ## What the decoder answers, opcode by opcode -/

section
variable (w : BitVec 16)

theorem decodeCommand_of_lcSet (hop : opField w = 0x10) :
    decodeCommand w
      = if (argField w).extractLsb' 3 5 ≠ 0 then .error .argumentBits
        else if 6 ≤ ((argField w).extractLsb' 0 3).toNat then .error .reservedLifecycleCode
        else .ok (.lcSet ((argField w).extractLsb' 0 3)) :=
  if_pos hop

theorem decodeCommand_of_attInc (hop : opField w = 0x15) :
    decodeCommand w
      = if (argField w).extractLsb' 1 7 ≠ 0 then .error .argumentBits
        else .ok (.attInc (phaseOfBit ((argField w).extractLsb' 0 1))) := by
  have hlc : opField w ≠ 0x10 := by rw [hop]; decide
  exact (if_neg hlc).trans (if_pos hop)

theorem decodeCommand_of_plain (i : Instr) (hp : plainCommand (opField w) = some i) :
    decodeCommand w = if argField w ≠ 0 then .error .argumentBits else .ok i := by
  have hlc : opField w ≠ 0x10 := by intro hop; rw [hop] at hp; cases hp
  have hatt : opField w ≠ 0x15 := by intro hop; rw [hop] at hp; cases hp
  simp only [decodeCommand, hlc, hatt, if_false, hp]

theorem decodeCommand_of_not_listed (hop : opField w ∉ listedOpcodes) :
    decodeCommand w = .error .reservedOpcode := by
  obtain ⟨hlc, hatt, hp⟩ := (not_mem_listedOpcodes_iff _).mp hop
  simp only [decodeCommand, hlc, hatt, if_false, hp]

/-- R87's illegal command words: a reserved opcode, or an operand the opcode does not allow. -/
theorem decodeCommand_error_iff :
    (∃ e, decodeCommand w = .error e) ↔
      opField w ∉ listedOpcodes
      ∨ (opField w = 0x10 ∧ (argField w).extractLsb' 3 5 ≠ 0)
      ∨ (opField w = 0x10 ∧ 6 ≤ ((argField w).extractLsb' 0 3).toNat)
      ∨ (opField w = 0x15 ∧ (argField w).extractLsb' 1 7 ≠ 0)
      ∨ (opField w ≠ 0x10 ∧ opField w ≠ 0x15 ∧ argField w ≠ 0) := by
  by_cases hlisted : opField w ∉ listedOpcodes
  · exact iff_of_true ⟨_, decodeCommand_of_not_listed w hlisted⟩ (.inl hlisted)
  by_cases hlc : opField w = 0x10
  · rw [decodeCommand_of_lcSet w hlc]
    split_ifs <;> simp_all
  by_cases hatt : opField w = 0x15
  · rw [decodeCommand_of_attInc w hatt]
    split_ifs <;> simp_all
  · obtain ⟨i, hp⟩ : ∃ i, plainCommand (opField w) = some i :=
      Option.ne_none_iff_exists'.mp fun hnone => hlisted ((not_mem_listedOpcodes_iff _).mpr ⟨hlc, hatt, hnone⟩)
    rw [decodeCommand_of_plain w i hp]
    split_ifs <;> simp_all

end

/-! ## Decoding and encoding of commands -/

theorem decodeCommand_commandWord_plain (p : BitVec 8 × Instr) (hp : p ∈ plainOpcodes) :
    decodeCommand (commandWord 0 p.1) = .ok p.2 := by
  rw [decodeCommand_of_plain _ p.2 (by rw [opField_commandWord]; exact plainCommand_of_mem p hp)]
  simp

theorem decodeCommand_commandWord_lcSet (S : BitVec 3) (hS : S.toNat < 6) :
    decodeCommand (commandWord ((0 : BitVec 5) ++ S) 0x10) = .ok (.lcSet S) := by
  have hhigh : ((0 : BitVec 5) ++ S).extractLsb' 3 5 = 0 := BitVec.extractLsb'_append_eq_left
  have hlow : ((0 : BitVec 5) ++ S).extractLsb' 0 3 = S := BitVec.extractLsb'_append_eq_right
  rw [decodeCommand_of_lcSet _ (opField_commandWord _ _), argField_commandWord, hhigh, hlow,
    if_neg (not_not.mpr rfl), if_neg (Nat.not_le_of_lt hS)]

@[simp] theorem phaseOfBit_bitOfPhase (PH : Phase) : phaseOfBit (bitOfPhase PH) = PH := by
  cases PH <;> rfl

@[simp] theorem bitOfPhase_phaseOfBit : ∀ b : BitVec 1, bitOfPhase (phaseOfBit b) = b := by
  decide

theorem decodeCommand_commandWord_attInc (PH : Phase) :
    decodeCommand (commandWord ((0 : BitVec 7) ++ bitOfPhase PH) 0x15) = .ok (.attInc PH) := by
  have hhigh : ((0 : BitVec 7) ++ bitOfPhase PH).extractLsb' 1 7 = 0 := BitVec.extractLsb'_append_eq_left
  have hlow : ((0 : BitVec 7) ++ bitOfPhase PH).extractLsb' 0 1 = bitOfPhase PH :=
    BitVec.extractLsb'_append_eq_right
  rw [decodeCommand_of_attInc _ (opField_commandWord _ _), argField_commandWord, hhigh, hlow,
    if_neg (not_not.mpr rfl), phaseOfBit_bitOfPhase]

/-- An argument whose upper bits are 0 is its operand, extended by zeros (R86). -/
theorem eq_append_of_high_zero {m n : Nat} (arg : BitVec (m + n)) (h : arg.extractLsb' n m = 0) :
    (0 : BitVec m) ++ arg.extractLsb' 0 n = arg := by
  rw [← h, BitVec.extractLsb'_append_extractLsb']

theorem encode_of_decodeCommand (w : BitVec 16) (i : Instr) (h : decodeCommand w = .ok i) :
    encode i = .command w := by
  obtain ⟨hop, hhigh, _, rfl⟩ | ⟨hop, hhigh, rfl⟩ | ⟨hp, harg⟩ := decodeCommand_ok_cases w i h
  · have hS : (0 : BitVec 5) ++ (argField w).extractLsb' 0 3 = argField w :=
      eq_append_of_high_zero (m := 5) (n := 3) _ hhigh
    rw [encode, hS, ← hop, commandWord_fields]
  · have hPH : (0 : BitVec 7) ++ (argField w).extractLsb' 0 1 = argField w :=
      eq_append_of_high_zero (m := 7) (n := 1) _ hhigh
    rw [encode, bitOfPhase_phaseOfBit, hPH, ← hop, commandWord_fields]
  · rw [encode_of_mem_plainOpcodes _ (mem_plainOpcodes_of_plainCommand _ i hp), ← harg, commandWord_fields]

/-! ## Decoding and encoding of host transactions -/

/-- A `KIND` is a read's, a write's or reserved (R91). -/
theorem kind_cases : ∀ k : BitVec 3,
    (k = 0 ∨ k = 2 ∨ k = 4) ∨ (k = 1 ∨ k = 3 ∨ k = 5) ∨ k = 6 ∨ k = 7 := by
  decide

@[simp] theorem readOf_zero (i : Instr) : readOf 0#16 i = .ok i := (readOf_eq_ok 0 i i).mpr ⟨rfl, rfl⟩

theorem readOf_error_iff (d : BitVec 16) (i : Instr) : (∃ e, readOf d i = .error e) ↔ d ≠ 0 := by
  unfold readOf
  split <;> simp_all

theorem decodeTransaction_regRd (a : BitVec 16) : decodeTransaction (transactionWord 0 a 0) = .ok (.regRd a) := by
  simp [decodeTransaction]

theorem decodeTransaction_pbRd (a : BitVec 16) : decodeTransaction (transactionWord 2 a 0) = .ok (.pbRd a) := by
  simp [decodeTransaction]

theorem decodeTransaction_pbWr (a d : BitVec 16) :
    decodeTransaction (transactionWord 3 a d) = .ok (.pbWr a d) := by
  simp [decodeTransaction]

theorem decodeTransaction_fbRd (a : BitVec 16) : decodeTransaction (transactionWord 4 a 0) = .ok (.fbRd a) := by
  simp [decodeTransaction]

theorem decodeTransaction_fbWr (a d : BitVec 16) :
    decodeTransaction (transactionWord 5 a d) = .ok (.fbWr a d) := by
  simp [decodeTransaction]

/-- R91's two refusals: a reserved `KIND`, or a read whose `DATA` is not 0. -/
theorem decodeTransaction_error_iff (w : BitVec 35) :
    (∃ e, decodeTransaction w = .error e) ↔
      kindField w = 6 ∨ kindField w = 7
      ∨ ((kindField w = 0 ∨ kindField w = 2 ∨ kindField w = 4) ∧ dataField w ≠ 0) := by
  obtain hread | hwrite | hreserved := kind_cases (kindField w)
  · obtain hk | hk | hk := hread <;> simp [decodeTransaction, hk, readOf_error_iff]
  · obtain hk | hk | hk := hwrite <;> simp [decodeTransaction, hk]
  · obtain hk | hk := hreserved <;> simp [decodeTransaction, hk]

theorem encode_of_decodeTransaction (w : BitVec 35) (i : Instr) (h : decodeTransaction w = .ok i) :
    encode i = .transaction w := by
  rw [← transactionWord_fields w]
  obtain hread | hwrite | hreserved := kind_cases (kindField w)
  · obtain hk | hk | hk := hread <;>
    · simp only [decodeTransaction, hk] at h
      obtain ⟨hdata, rfl⟩ := (readOf_eq_ok _ _ _).mp h
      rw [hk, hdata]; rfl
  · obtain hk | hk | hk := hwrite <;>
    · simp only [decodeTransaction, hk] at h
      cases h
      rw [hk]; rfl
  · obtain hk | hk := hreserved <;>
    · simp only [decodeTransaction, hk] at h
      cases h

/-! ## The opcode table -/

/-- A row of the table by fields: `ARG` under a mask, and the whole of `OP`. -/
def commandRow (name : String) (arg mask op : BitVec 8) : TableRow 16 :=
  ⟨name, commandWord arg op, commandWord mask 0xFF⟩

theorem rowMatches_commandRow (w : BitVec 16) (name : String) (arg mask op : BitVec 8) :
    rowMatches w (commandRow name arg mask op) = true ↔ argField w &&& mask = arg ∧ opField w = op := by
  have hop : opField w &&& 0xFF = opField w := BitVec.and_allOnes
  rw [rowMatches, decide_eq_true_iff, commandRow, and_commandWord, commandWord_inj, hop]

/-- The table's command rows: one for each opcode without argument, two for LC_SET (`S` 0 to 3, and 4 or 5) and
one for ATT_INC. -/
theorem commandTable_cases : ∀ r ∈ commandTable,
    (∃ p ∈ plainOpcodes, r = commandRow p.2.mnemonic 0 0xFF p.1)
    ∨ r = commandRow "LC_SET" 0 0xFC 0x10 ∨ r = commandRow "LC_SET" 4 0xFE 0x10
    ∨ r = commandRow "ATT_INC" 0 0xFE 0x15 := by
  decide

/-- A row of the table by fields: the whole of `KIND`, any `ADDR`, and `DATA` 0 under a mask. -/
def transactionRow (name : String) (k : BitVec 3) (mask : BitVec 16) : TableRow 35 :=
  ⟨name, transactionWord k 0 0, transactionWord 7 0 mask⟩

@[simp] theorem mnemonic_transactionRow (name : String) (k : BitVec 3) (mask : BitVec 16) :
    (transactionRow name k mask).mnemonic = name := rfl

theorem rowMatches_transactionRow (w : BitVec 35) (name : String) (k : BitVec 3) (mask : BitVec 16) :
    rowMatches w (transactionRow name k mask) = decide (kindField w = k ∧ dataField w &&& mask = 0) := by
  have hk : kindField w &&& 7 = kindField w := BitVec.and_allOnes
  have ha : addrField w &&& 0 = 0 := BitVec.and_zero
  simp only [rowMatches, transactionRow, and_transactionWord, transactionWord_inj, hk, ha, true_and]

theorem transactionTable_eq : transactionTable
    = [transactionRow "REG_RD" 0 0xFFFF, transactionRow "REG_WR" 1 0, transactionRow "PB_RD" 2 0xFFFF,
      transactionRow "PB_WR" 3 0, transactionRow "FB_RD" 4 0xFFFF, transactionRow "FB_WR" 5 0] := by
  decide

/-! ### Legal words -/

theorem matchingRows_encode_plain : ∀ p ∈ plainOpcodes, matchingRows (encode p.2) = [p.2.mnemonic] := by
  decide

theorem matchingRows_encode_lcSet :
    ∀ S : BitVec 3, S.toNat < 6 → matchingRows (encode (.lcSet S)) = ["LC_SET"] := by
  decide

/-- The rows of an encoded instruction: for a command its opcode, with its operand, is one row's; for a host
transaction its `KIND` is. -/
theorem matchingRows_encode (i : Instr) (hwf : i.wellFormed = true) : matchingRows (encode i) = [i.mnemonic] := by
  cases hc : i.isCommand with
  | true =>
    obtain ⟨p, hp, rfl⟩ | ⟨S, rfl⟩ | ⟨PH, rfl⟩ := isCommand_cases i hc
    · exact matchingRows_encode_plain p hp
    · exact matchingRows_encode_lcSet S (of_decide_eq_true hwf)
    · cases PH <;> decide
  | false =>
    cases i with
    | regRd | regWr | pbRd | pbWr | fbRd | fbWr =>
      simp [encode, matchingRows, transactionTable_eq, rowMatches_transactionRow, Instr.mnemonic]
    | _ => cases hc

/-! ### Illegal words -/

/-- What the table's mask lets through as `ARG` of an LC_SET passes both checks of the decoder. -/
theorem lcSet_argument_of_row : ∀ arg : BitVec 8, arg &&& 0xFC = 0 ∨ arg &&& 0xFE = 4 →
    arg.extractLsb' 3 5 = 0 ∧ (arg.extractLsb' 0 3).toNat < 6 := by
  decide

theorem attInc_argument_of_row : ∀ arg : BitVec 8, arg &&& 0xFE = 0 → arg.extractLsb' 1 7 = 0 := by
  decide

theorem decodeCommand_ok_of_lcSet_row (w : BitVec 16) (hop : opField w = 0x10)
    (harg : argField w &&& 0xFC = 0 ∨ argField w &&& 0xFE = 4) : ∃ i, decodeCommand w = .ok i := by
  obtain ⟨hhigh, hS⟩ := lcSet_argument_of_row _ harg
  rw [decodeCommand_of_lcSet w hop, if_neg (not_not.mpr hhigh), if_neg (Nat.not_le_of_lt hS)]
  exact ⟨_, rfl⟩

theorem decodeCommand_ok_of_attInc_row (w : BitVec 16) (hop : opField w = 0x15)
    (harg : argField w &&& 0xFE = 0) : ∃ i, decodeCommand w = .ok i := by
  rw [decodeCommand_of_attInc w hop, if_neg (not_not.mpr (attInc_argument_of_row _ harg))]
  exact ⟨_, rfl⟩

/-- A word with a matching row decodes (R88). -/
theorem decodeCommand_ok_of_rowMatches (w : BitVec 16) (r : TableRow 16) (hr : r ∈ commandTable)
    (hm : rowMatches w r = true) : ∃ i, decodeCommand w = .ok i := by
  obtain ⟨p, hp, rfl⟩ | rfl | rfl | rfl := commandTable_cases r hr
  · obtain ⟨harg, hop⟩ := (rowMatches_commandRow ..).mp hm
    have hzero : argField w = 0 := BitVec.and_allOnes.symm.trans harg
    rw [← commandWord_fields w, hzero, hop]
    exact ⟨_, decodeCommand_commandWord_plain p hp⟩
  · obtain ⟨harg, hop⟩ := (rowMatches_commandRow ..).mp hm
    exact decodeCommand_ok_of_lcSet_row w hop (.inl harg)
  · obtain ⟨harg, hop⟩ := (rowMatches_commandRow ..).mp hm
    exact decodeCommand_ok_of_lcSet_row w hop (.inr harg)
  · obtain ⟨harg, hop⟩ := (rowMatches_commandRow ..).mp hm
    exact decodeCommand_ok_of_attInc_row w hop harg

theorem matchingRows_of_decodeCommand_error (w : BitVec 16) (e : Reject) (h : decodeCommand w = .error e) :
    matchingRows (.command w) = [] := by
  refine List.map_eq_nil_iff.mpr (List.filter_eq_nil_iff.mpr fun r hr hm => ?_)
  obtain ⟨i, hi⟩ := decodeCommand_ok_of_rowMatches w r hr hm
  cases h.symm.trans hi

/-- No row has a reserved `KIND`, and a read's row has `DATA` 0. -/
theorem matchingRows_of_decodeTransaction_error (w : BitVec 35) (e : Reject)
    (h : decodeTransaction w = .error e) : matchingRows (.transaction w) = [] := by
  have hdata : dataField w &&& 65535#16 = dataField w := BitVec.and_allOnes
  obtain hk | hk | ⟨hread, hd⟩ := (decodeTransaction_error_iff w).mp ⟨e, h⟩
  · simp [matchingRows, transactionTable_eq, rowMatches_transactionRow, hk]
  · simp [matchingRows, transactionTable_eq, rowMatches_transactionRow, hk]
  · obtain hk | hk | hk := hread <;>
      simpa [matchingRows, transactionTable_eq, rowMatches_transactionRow, hk, hdata] using hd

namespace Machine

/-! ## The statements -/

/-- Settles O1: the decoder reads back the fields of which the encoder makes the word. -/
theorem decodeInvertsEncode : Obligations.DecodeInvertsEncode := by
  intro i hwf
  cases hc : i.isCommand with
  | true =>
    obtain ⟨p, hp, rfl⟩ | ⟨S, rfl⟩ | ⟨PH, rfl⟩ := isCommand_cases i hc
    · rw [encode_of_mem_plainOpcodes p hp]; exact decodeCommand_commandWord_plain p hp
    · exact decodeCommand_commandWord_lcSet S (of_decide_eq_true hwf)
    · exact decodeCommand_commandWord_attInc PH
  | false =>
    cases i with
    | regRd a => exact decodeTransaction_regRd a
    | regWr a d => exact decodeTransaction_regWr a d
    | pbRd a => exact decodeTransaction_pbRd a
    | pbWr a d => exact decodeTransaction_pbWr a d
    | fbRd a => exact decodeTransaction_fbRd a
    | fbWr a d => exact decodeTransaction_fbWr a d
    | _ => cases hc

/-- Settles O2: in either format the instruction is well formed and its encoding puts the fields back. -/
theorem encodeInvertsDecode : Obligations.EncodeInvertsDecode := by
  intro c i h
  cases c with
  | command w => exact ⟨wellFormed_of_decodeCommand w i h, encode_of_decodeCommand w i h⟩
  | transaction w => exact ⟨wellFormed_of_decodeTransaction w i h, encode_of_decodeTransaction w i h⟩

/-- Settles O3: a legal word is an encoded instruction, whose row is its own; a word that a row matches decodes. -/
theorem oneTableRowPerLegalWord : Obligations.OneTableRowPerLegalWord := by
  intro c
  constructor
  · intro i h
    obtain ⟨hwf, rfl⟩ := encodeInvertsDecode c i h
    exact matchingRows_encode i hwf
  · intro e h
    cases c with
    | command w => exact matchingRows_of_decodeCommand_error w e h
    | transaction w => exact matchingRows_of_decodeTransaction_error w e h

/-- Settles O6: the illegal words are the decoder's errors, the fields of `ARG` read in the word itself, and a
write of `CMD` executes such a word as an error report. -/
theorem illegalCommandWords : Obligations.IllegalCommandWords := by
  refine ⟨rfl, fun w => ⟨?_, fun e s h => (execRegWr_cmd w s).trans (executeWord_error w e s h)⟩⟩
  rw [decodeCommand_error_iff, extractLsb'_argField w 3 5 (by decide), extractLsb'_argField w 0 3 (by decide),
    extractLsb'_argField w 1 7 (by decide)]
  exact Iff.rfl

/-- A refused transaction word reports ILLEGAL_CMD and returns 0 (R91, R251). -/
theorem step_of_illegal_transaction (s : State) (w : BitVec 35) (rest : List Input) (e : Reject)
    (hs : s.inputs = .transaction w :: rest) (hd : decodeTransaction w = .error e) :
    step s = .next { raiseError .illegalCmd (beginTransaction rest s) with reply := some 0 } := by
  rw [step, hs]
  simp only [runTransaction, hd, refuseRead]

/-- Settles O7: the six kinds, and the decoder's two refusals as steps. -/
theorem transactionKinds : Obligations.TransactionKinds := by
  refine ⟨fun a d => ⟨decodeTransaction_regRd a, decodeTransaction_regWr a d, decodeTransaction_pbRd a,
    decodeTransaction_pbWr a d, decodeTransaction_fbRd a, decodeTransaction_fbWr a d⟩, ?_⟩
  intro s rest k a d hs hillegal
  obtain ⟨e, he⟩ : ∃ e, decodeTransaction (transactionWord k a d) = .error e := by
    rw [decodeTransaction_error_iff, kindField_transactionWord, dataField_transactionWord]
    exact hillegal
  exact step_of_illegal_transaction s _ rest e hs he

/-- Settles O4: each example word is the encoding of a well-formed instruction, so it decodes to it; the two illegal
ones fail their opcode's check. -/
theorem exampleEncodings : Obligations.ExampleEncodings := by
  have legal := decodeInvertsEncode
  refine ⟨rfl, rfl, rfl, rfl, rfl, rfl, rfl, rfl, rfl, legal .serialize rfl, legal (.lcSet 3) rfl,
    legal (.attInc .close) rfl, legal (.regWr 0x0001 0x0003) rfl, legal (.regWr 0x0001 0x0310) rfl,
    legal (.regRd 0x0002) rfl, legal (.pbWr 3 0x41) rfl, ?_, ?_⟩
  · exact decodeCommand_of_lcSet 0x0610 rfl
  · exact decodeCommand_of_plain 0x0102 .verify rfl

/-- Settles O5: a listed opcode with `ARG` 0 is the encoding of its command, so it decodes to it. -/
theorem opcodeMap : Obligations.OpcodeMap := by
  have legal := decodeInvertsEncode
  exact ⟨legal .nop rfl, legal .csumGen rfl, legal .verify rfl, legal .serialize rfl, legal .deserialize rfl,
    legal .encode rfl, legal .decode rfl, legal .pktClear rfl, legal .errClr rfl, legal (.lcSet 0) rfl,
    legal .ctxReset rfl, legal .seqReset rfl, legal .seqInc rfl, legal .attClr rfl, legal (.attInc .connect) rfl,
    legal .winStart rfl, legal .winSent rfl, legal .winAck rfl, legal .winFail rfl, legal .rxClassify rfl,
    legal .rxCommit rfl, legal .tmrArm rfl, legal .tmrDisarm rfl, decodeCommand_of_not_listed⟩

end Machine

end Sys2Proof
end

section
/-! PROOFS. The checksum (40_codec.md R100 to R102, R106). Everything said of it here is said of the plain sum of its
words: the ones'-complement sum is determined by that sum modulo 0xFFFF and by whether it is 0. -/

namespace Sys2Proof.Machine

/-! ## The plain sum of a list of words -/

/-- The plain sum of a list of words, without end-around carry. -/
def plainSum (ws : List Word) : Nat := (ws.map BitVec.toNat).sum

@[simp] theorem plainSum_cons (w : Word) (ws : List Word) : plainSum (w :: ws) = w.toNat + plainSum ws := by
  simp [plainSum]

/-- The plain sum determines the ones'-complement sum: modulo 0xFFFF, and whether it is 0. -/
theorem onesSum_congr (ws ws' : List Word) (h : plainSum ws = plainSum ws') : onesSum ws = onesSum ws' := by
  apply BitVec.eq_of_toNat_eq
  have hmod := onesSum_mod ws
  have hmod' := onesSum_mod ws'
  have hz := onesSum_eq_zero ws
  have hz' := onesSum_eq_zero ws'
  have hlt := (onesSum ws).isLt
  have hlt' := (onesSum ws').isLt
  simp only [plainSum] at h
  omega

/-- The checksum is 0xFFFF exactly when every word is 0 (R102 (b)). -/
theorem complement_onesSum_eq_ones (ws : List Word) : ~~~ onesSum ws = 0xFFFF ↔ plainSum ws = 0 := by
  have hz := onesSum_eq_zero ws
  have hlt := (onesSum ws).isLt
  rw [← BitVec.toNat_inj, BitVec.toNat_not, plainSum, show (0xFFFF : Word).toNat = 65535 from rfl]
  omega

/-- The checksum is 0 exactly when the words sum to a multiple of 0xFFFF other than 0 (R102 (c)). -/
theorem complement_onesSum_eq_zero (ws : List Word) :
    ~~~ onesSum ws = 0x0000 ↔ plainSum ws % 65535 = 0 ∧ plainSum ws ≠ 0 := by
  have hmod := onesSum_mod ws
  have hz := onesSum_eq_zero ws
  have hlt := (onesSum ws).isLt
  rw [← BitVec.toNat_inj, BitVec.toNat_not, plainSum, show (0x0000 : Word).toNat = 0 from rfl]
  omega

/-! ## The words of the padded payload -/

/-- Byte `i` of the payload padded with zeros (R101). -/
def paddedByte (buf : Nat → Byte) (n i : Nat) : Byte := if i < n then buf i else 0x00

/-- Word `k` of the payload padded with zeros (R63, R100). -/
def payloadWord (buf : Nat → Byte) (n k : Nat) : Word := paddedByte buf n (2 * k) ++ paddedByte buf n (2 * k + 1)

theorem byte_append_toNat (a b : Byte) : (a ++ b : Word).toNat = 256 * a.toNat + b.toNat :=
  (toNat_commandWord a b).trans (by omega)

/-- Word `k` of a packed byte string is made of the bytes 2k and 2k + 1, zero where the string has ended (R100). -/
theorem packWords_eq_map (l : List Byte) :
    packWords l = (List.range ((l.length + 1) / 2)).map (fun k => l.getD (2 * k) 0x00 ++ l.getD (2 * k + 1) 0x00) := by
  induction l using packWords.induct with
  | case1 => rfl
  | case2 a => simp [packWords]
  | case3 a b rest ih =>
    have hlen : ((a :: b :: rest).length + 1) / 2 = (rest.length + 1) / 2 + 1 := by
      simp only [List.length_cons]; omega
    rw [packWords_cons_cons, hlen, List.range_succ_eq_map, List.map_cons, List.map_map, ih]
    rfl

/-- Where the padded payload has ended, the byte R100 appends is a padding byte too. -/
theorem padded_getD (P : Nat) (buf : Nat → Byte) (n i : Nat) (hn : n ≤ P) :
    (padded P buf n).getD i 0x00 = paddedByte buf n i := by
  by_cases hi : i < P
  · rw [List.getD_eq_getElem?_getD, padded_get P buf n i hi]; rfl
  · rw [List.getD_eq_default _ _ (by simpa using hi), paddedByte, if_neg (by omega)]

theorem packWords_padded (P : Nat) (buf : Nat → Byte) (n : Nat) (hn : n ≤ P) :
    packWords (padded P buf n) = (List.range ((P + 1) / 2)).map (payloadWord buf n) := by
  simp only [packWords_eq_map, padded_length, padded_getD P buf n _ hn]
  rfl

/-- The words the checksum covers, each from its two bytes. -/
theorem checksumWords_eq (P : Nat) (t q : Byte) (buf : Nat → Byte) (n : Nat) (hn : n ≤ P) :
    checksumWords P t q buf n = (t ++ q) :: (List.range ((P + 1) / 2)).map (payloadWord buf n) := by
  rw [checksumWords, packWords_padded P buf n hn]

theorem paddedByte_toNat (buf : Nat → Byte) (n i : Nat) :
    (paddedByte buf n i).toNat = if i < n then (buf i).toNat else 0 := by
  unfold paddedByte; split <;> rfl

theorem payloadWord_toNat (buf : Nat → Byte) (n k : Nat) :
    (payloadWord buf n k).toNat
      = 256 * (paddedByte buf n (2 * k)).toNat + (paddedByte buf n (2 * k + 1)).toNat :=
  byte_append_toNat _ _

/-- The plain sum of the words the checksum covers, as a sum over the words of the payload. -/
theorem plainSum_checksumWords (P : Nat) (t q : Byte) (buf : Nat → Byte) (n : Nat) (hn : n ≤ P) :
    plainSum (checksumWords P t q buf n)
      = 256 * t.toNat + q.toNat + ((List.range ((P + 1) / 2)).map (fun k => (payloadWord buf n k).toNat)).sum := by
  rw [checksumWords_eq P t q buf n hn, plainSum_cons, byte_append_toNat, plainSum, List.map_map]
  rfl

/-- Settles O27: the three clauses are those of the ones'-complement sum, at the words the checksum covers. -/
theorem checksumIsOnesComplementSum : Obligations.ChecksumIsOnesComplementSum := by
  intro P t q buf n hn padByte S
  have hS : plainSum (checksumWords P t q buf n) = S := by
    rw [plainSum_checksumWords P t q buf n hn]
    simp only [payloadWord_toNat, paddedByte_toNat]
    rfl
  rw [← hS, checksum]
  refine ⟨?_, complement_onesSum_eq_ones _, complement_onesSum_eq_zero _⟩
  rw [BitVec.not_not]
  exact onesSum_mod _

/-! ## What the checksum does not depend on -/

/-- The words past the payload are zero (R101). -/
theorem payloadWord_of_le (buf : Nat → Byte) (n k : Nat) (h : n ≤ 2 * k) : payloadWord buf n k = 0 := by
  rw [payloadWord, paddedByte, paddedByte, if_neg (by omega), if_neg (by omega)]
  rfl

/-- The capacity only decides how many zero words follow the payload, so the checksum is that of a buffer the payload
fills (R102 (a)). -/
theorem checksum_eq_of_le (P : Nat) (t q : Byte) (buf : Nat → Byte) (n : Nat) (hn : n ≤ P) :
    checksum P t q buf n = checksum n t q buf n := by
  have hlen : (P + 1) / 2 = (n + 1) / 2 + ((P + 1) / 2 - (n + 1) / 2) := by omega
  have hzeros : ((List.range ((P + 1) / 2 - (n + 1) / 2)).map (fun x => (n + 1) / 2 + x)).map (payloadWord buf n)
      = List.replicate ((P + 1) / 2 - (n + 1) / 2) 0 := by
    rw [List.map_map, List.eq_replicate_iff]
    refine ⟨by simp, fun w hw => ?_⟩
    obtain ⟨k, _, rfl⟩ := List.mem_map.mp hw
    exact payloadWord_of_le buf n _ (by simp only; omega)
  rw [checksum, checksum, checksumWords_eq P t q buf n hn, checksumWords_eq n t q buf n le_rfl, hlen,
    List.range_add, List.map_append, hzeros, ← List.cons_append, onesSum_append_zeros]

/-- The checksum reads the buffer only below the payload length (R101). -/
theorem checksum_congr (P : Nat) (t q : Byte) (buf buf' : Nat → Byte) (n : Nat) (h : ∀ j, j < n → buf j = buf' j) :
    checksum P t q buf n = checksum P t q buf' n := by
  rw [checksum, checksum, checksumWords, checksumWords, padded_congr P buf buf' n h]

/-- Settles O28: either checksum is that of a buffer the payload fills, and there the two buffers agree. -/
theorem checksumCoversOnlyThePayload : Obligations.ChecksumCoversOnlyThePayload := by
  intro P P' t q buf buf' n hn hn' h
  calc checksum P t q buf n = checksum n t q buf n := checksum_eq_of_le P t q buf n hn
    _ = checksum n t q buf' n := checksum_congr n t q buf buf' n h
    _ = checksum P' t q buf' n := (checksum_eq_of_le P' t q buf' n hn').symm

/-! ## Two words exchanged -/

/-- A sum over indices does not change when two of them are exchanged. -/
theorem sum_map_range_swap (f : Nat → Nat) (m k l : Nat) (hk : k < m) (hl : l < m) :
    ((List.range m).map (fun j => f (Equiv.swap k l j))).sum = ((List.range m).map f).sum := by
  have hmoved : {j | Equiv.swap k l j ≠ j} ⊆ (Finset.range m : Set Nat) := by
    intro j hj
    obtain rfl | rfl := (Equiv.swap_apply_ne_self_iff.mp hj).2
    · simpa using hk
    · simpa using hl
  exact Equiv.Perm.sum_comp (Equiv.swap k l) (Finset.range m) f hmoved

theorem payloadWord_of_lt (buf : Nat → Byte) (n k : Nat) (h : 2 * k + 1 < n) :
    payloadWord buf n k = buf (2 * k) ++ buf (2 * k + 1) := by
  rw [payloadWord, paddedByte, paddedByte, if_pos (Nat.lt_of_succ_lt h), if_pos h]

/-- Exchanging two aligned words of the buffer exchanges two words of the payload. -/
theorem payloadWord_swap (buf buf' : Nat → Byte) (n k l : Nat) (hk : 2 * k + 1 < n) (hl : 2 * l + 1 < n)
    (hk0 : buf' (2 * k) = buf (2 * l)) (hk1 : buf' (2 * k + 1) = buf (2 * l + 1))
    (hl0 : buf' (2 * l) = buf (2 * k)) (hl1 : buf' (2 * l + 1) = buf (2 * k + 1))
    (hrest : ∀ j, j / 2 ≠ k → j / 2 ≠ l → buf' j = buf j) (j : Nat) :
    payloadWord buf' n j = payloadWord buf n (Equiv.swap k l j) := by
  by_cases hjk : j = k
  · rw [hjk, Equiv.swap_apply_left, payloadWord_of_lt _ _ _ hk, payloadWord_of_lt _ _ _ hl, hk0, hk1]
  · by_cases hjl : j = l
    · rw [hjl, Equiv.swap_apply_right, payloadWord_of_lt _ _ _ hk, payloadWord_of_lt _ _ _ hl, hl0, hl1]
    · rw [Equiv.swap_apply_of_ne_of_ne hjk hjl]
      simp only [payloadWord, paddedByte, hrest (2 * j) (by omega) (by omega), hrest (2 * j + 1) (by omega) (by omega)]

/-- Settles O29: the words of the second payload are those of the first with two indices exchanged, so the plain sums
are equal. -/
theorem alignedWordSwapIsNotDetected : Obligations.AlignedWordSwapIsNotDetected := by
  intro P t q buf buf' n k l hn hk hl hk0 hk1 hl0 hl1 hrest
  have hsum : plainSum (checksumWords P t q buf' n) = plainSum (checksumWords P t q buf n) := by
    rw [plainSum_checksumWords P t q buf' n hn, plainSum_checksumWords P t q buf n hn]
    simp only [payloadWord_swap buf buf' n k l hk hl hk0 hk1 hl0 hl1 hrest]
    rw [sum_map_range_swap (fun j => (payloadWord buf n j).toNat) _ k l (by omega) (by omega)]
  rw [checksum, checksum, onesSum_congr _ _ hsum]

/-! ## Worked values -/

/-- The checksum of the payload's own bytes, without padding (R101). -/
theorem checksum_eq_of_bytes (P : Nat) (t q : Byte) (buf : Nat → Byte) (n : Nat) (hn : n ≤ P) :
    checksum P t q buf n = ~~~ onesSum ((t ++ q) :: packWords ((List.range n).map buf)) := by
  have hbytes : padded n buf n = (List.range n).map buf :=
    List.map_congr_left (fun i hi => if_pos (List.mem_range.mp hi))
  rw [checksum_eq_of_le P t q buf n hn, checksum, checksumWords, hbytes]

theorem onesSum_singleton (w : Word) : onesSum [w] = w := by
  apply BitVec.eq_of_toNat_eq
  have hlt := w.isLt
  rw [onesSum, List.foldl_cons, List.foldl_nil, addEndAround_toNat, show (0 : Word).toNat = 0 from rfl]
  omega

/-- An empty payload gives the complement of the header word (R105). -/
theorem checksum_header_only (P : Nat) (t q : Byte) (buf : Nat → Byte) : checksum P t q buf 0 = ~~~ (t ++ q) :=
  (checksum_eq_of_bytes P t q buf 0 (Nat.zero_le P)).trans (congrArg (~~~ ·) (onesSum_singleton (t ++ q)))

theorem checksum_of_two_bytes (P : Nat) (t q : Byte) (buf : Nat → Byte) (hn : 2 ≤ P) :
    checksum P t q buf 2 = ~~~ onesSum [t ++ q, buf 0 ++ buf 1] :=
  checksum_eq_of_bytes P t q buf 2 hn

theorem checksum_of_three_bytes (P : Nat) (t q : Byte) (buf : Nat → Byte) (hn : 3 ≤ P) :
    checksum P t q buf 3 = ~~~ onesSum [t ++ q, buf 0 ++ buf 1, buf 2 ++ (0x00 : Byte)] :=
  checksum_eq_of_bytes P t q buf 3 hn

/-- Settles O30: each value is computed from the bytes of its payload alone. -/
theorem workedChecksumValues : Obligations.WorkedChecksumValues := by
  intro P buf hP
  have hP2 : 2 ≤ P := Nat.le_of_succ_le hP
  refine ⟨checksum_header_only .., checksum_header_only .., checksum_header_only .., checksum_header_only ..,
    checksum_header_only .., fun h0 h1 h2 => ?_, fun h0 h1 => ?_, fun h0 h1 => ?_⟩
  · rw [checksum_of_three_bytes P _ _ buf hP, h0, h1, h2]; decide
  · rw [checksum_of_two_bytes P _ _ buf hP2, h0, h1]; decide
  · rw [checksum_of_two_bytes P _ _ buf hP2, h0, h1]; decide

/-! ## One byte changed -/

/-- What byte `i` of a packed byte string counts for in the plain sum: the even ones are the high bytes (R63). -/
def byteWeight (i : Nat) : Nat := if i % 2 = 0 then 256 else 1

theorem byteWeight_zero : byteWeight 0 = 256 := rfl

theorem byteWeight_one : byteWeight 1 = 1 := rfl

theorem byteWeight_add_two (i : Nat) : byteWeight (i + 2) = byteWeight i := by
  rw [byteWeight, byteWeight, Nat.add_mod_right]

theorem plainSum_packWords_singleton (a : Byte) : plainSum (packWords [a]) = 256 * a.toNat := by
  rw [packWords, plainSum_cons, byte_append_toNat]; rfl

theorem plainSum_packWords_cons_cons (a b : Byte) (rest : List Byte) :
    plainSum (packWords (a :: b :: rest)) = 256 * a.toNat + b.toNat + plainSum (packWords rest) := by
  rw [packWords_cons_cons, plainSum_cons, byte_append_toNat]

/-- Replacing one byte moves the plain sum by the weighted difference of the two bytes. -/
theorem plainSum_packWords_set (l : List Byte) : ∀ (i : Nat) (b : Byte) (hi : i < l.length),
    plainSum (packWords (l.set i b)) + byteWeight i * l[i].toNat = plainSum (packWords l) + byteWeight i * b.toNat := by
  induction l using packWords.induct with
  | case1 => intro i b hi; exact absurd hi (Nat.not_lt_zero i)
  | case2 a =>
    intro i b hi
    obtain rfl : i = 0 := Nat.lt_one_iff.mp hi
    simp only [List.set_cons_zero, List.getElem_cons_zero, plainSum_packWords_singleton, byteWeight_zero]
    omega
  | case3 a c rest ih =>
    intro i b hi
    match i with
    | 0 =>
      simp only [List.set_cons_zero, List.getElem_cons_zero, plainSum_packWords_cons_cons, byteWeight_zero]
      omega
    | 1 =>
      simp only [List.set_cons_succ, List.set_cons_zero, List.getElem_cons_succ, List.getElem_cons_zero,
        plainSum_packWords_cons_cons, byteWeight_one]
      omega
    | i + 2 =>
      have h := ih i b (Nat.lt_of_succ_lt_succ (Nat.lt_of_succ_lt_succ hi))
      simp only [List.set_cons_succ, List.getElem_cons_succ, plainSum_packWords_cons_cons, byteWeight_add_two]
      omega

/-- A change of one byte moves the plain sum by less than 0xFFFF, so it changes the ones'-complement sum (R102 (e)). -/
theorem onesSum_packWords_set_ne (l : List Byte) (i : Nat) (b : Byte) (hi : i < l.length) (hb : b ≠ l[i]) :
    onesSum (packWords (l.set i b)) ≠ onesSum (packWords l) := by
  intro heq
  have hset := plainSum_packWords_set l i b hi
  have hmod : plainSum (packWords (l.set i b)) % 65535 = plainSum (packWords l) % 65535 := by
    rw [plainSum, plainSum, ← onesSum_mod, ← onesSum_mod, heq]
  have hne : b.toNat ≠ l[i].toNat := fun h => hb (BitVec.eq_of_toNat_eq h)
  have hlt := b.isLt
  have hlt' := l[i].isLt
  unfold byteWeight at hset
  split at hset <;> omega

/-- The words the checksum covers are the packed bytes of the header and the padded payload. -/
theorem checksumWords_eq_packWords (P : Nat) (t q : Byte) (buf : Nat → Byte) (n : Nat) :
    checksumWords P t q buf n = packWords (t :: q :: padded P buf n) := rfl

/-- One byte of the payload changed is one byte of the padded payload changed. -/
theorem padded_set (P : Nat) (buf buf' : Nat → Byte) (n i : Nat) (hi : i < n)
    (hrest : ∀ j, j < n → j ≠ i → buf' j = buf j) : padded P buf' n = (padded P buf n).set i (buf' i) := by
  refine List.ext_getElem (by simp) (fun j _ _ => ?_)
  rw [List.getElem_set]
  simp only [padded, List.getElem_map, List.getElem_range]
  by_cases hij : i = j
  · subst hij; simp [hi]
  · rw [if_neg hij]
    split
    next hj => exact hrest j hj (Ne.symm hij)
    next => rfl

/-- Where one byte of what the checksum covers is changed, the checksum is (R102 (e)). -/
theorem checksum_ne_of_set (P : Nat) (t t' q q' : Byte) (buf buf' : Nat → Byte) (n i : Nat) (b : Byte)
    (hi : i < (t :: q :: padded P buf n).length) (hb : b ≠ (t :: q :: padded P buf n)[i])
    (hset : t' :: q' :: padded P buf' n = (t :: q :: padded P buf n).set i b) :
    checksum P t' q' buf' n ≠ checksum P t q buf n := by
  rw [checksum, checksum, checksumWords_eq_packWords, checksumWords_eq_packWords, hset]
  exact fun heq => onesSum_packWords_set_ne _ i b hi hb (BitVec.not_inj.mp heq)

theorem checksum_ne_of_type (P : Nat) (t t' q : Byte) (buf : Nat → Byte) (n : Nat) (ht : t' ≠ t) :
    checksum P t' q buf n ≠ checksum P t q buf n :=
  checksum_ne_of_set P t t' q q buf buf n 0 t' (by simp) ht rfl

theorem checksum_ne_of_seq (P : Nat) (t q q' : Byte) (buf : Nat → Byte) (n : Nat) (hq : q' ≠ q) :
    checksum P t q' buf n ≠ checksum P t q buf n :=
  checksum_ne_of_set P t t q q' buf buf n 1 q' (by simp) hq rfl

theorem checksum_ne_of_payload_byte (P : Nat) (t q : Byte) (buf buf' : Nat → Byte) (n i : Nat) (hn : n ≤ P)
    (hi : i < n) (hne : buf' i ≠ buf i) (hrest : ∀ j, j < n → j ≠ i → buf' j = buf j) :
    checksum P t q buf' n ≠ checksum P t q buf n := by
  have hlen : i < (padded P buf n).length := by rw [padded_length]; omega
  have hget : (padded P buf n)[i] = buf i := by simp [padded, hi]
  refine checksum_ne_of_set P t t q q buf buf' n (i + 2) (buf' i) (by simpa using hlen) (by simpa [hget] using hne) ?_
  rw [List.set_cons_succ, List.set_cons_succ, ← padded_set P buf buf' n i hi hrest]

end Sys2Proof.Machine
end

section
/-! PROOFS. The codec commands (40_codec.md R105 to R120). First the commands' checks and what the buffers read as
after a command's store; then a frame's own checksum, computed from its bytes, which is what DECODE compares. -/

namespace Sys2Proof.Machine

/-! ## The checks -/

section
variable (s b : State)

/-- The check of CSUM_GEN, VERIFY, SERIALIZE and ENCODE, passed (R105). -/
theorem checkedPayload_of_le (h : s.pktPlen.toNat ≤ s.params.P) :
    (if s.payloadTooLong then refuseWith .oversize s else .next b) = .next b :=
  if_neg (Bool.eq_false_iff.mp ((payloadTooLong_eq_false s).mpr h))

/-- The same check, failed. -/
theorem checkedPayload_of_lt (h : s.params.P < s.pktPlen.toNat) :
    (if s.payloadTooLong then refuseWith .oversize s else .next b) = .next (raiseError .oversize s) :=
  if_pos ((payloadTooLong_eq_true s).mpr h)

theorem exec_csumGen_of_le (h : s.pktPlen.toNat ≤ s.params.P) : exec .csumGen s = .next (csumGenBody s) :=
  checkedPayload_of_le s _ h

theorem exec_verify_of_le (h : s.pktPlen.toNat ≤ s.params.P) : exec .verify s = .next (verifyStep s) :=
  checkedPayload_of_le s _ h

theorem exec_serialize_of_le (h : s.pktPlen.toNat ≤ s.params.P) : exec .serialize s = .next (serializeBody s) :=
  checkedPayload_of_le s _ h

theorem exec_encode_of_le (h : s.pktPlen.toNat ≤ s.params.P) :
    exec .encode s = .next (serializeBody (csumGenBody s)) :=
  checkedPayload_of_le s _ h

/-- The checks of DESERIALIZE and DECODE, passed (R112). -/
theorem checkedFrame_of_legal (h : 4 ≤ s.flen.toNat) (hle : s.flen.toNat ≤ s.params.P + 4) :
    (if s.flen.toNat < 4 then refuseWith .framing s
      else if s.params.P + 4 < s.flen.toNat then refuseWith .oversize s else .next b) = .next b := by
  rw [if_neg (Nat.not_lt.mpr h), if_neg (Nat.not_lt.mpr hle)]

/-- A frame too short for its header is refused (R112). -/
theorem checkedFrame_of_short (h : s.flen.toNat < 4) :
    (if s.flen.toNat < 4 then refuseWith .framing s
      else if s.params.P + 4 < s.flen.toNat then refuseWith .oversize s else .next b)
      = .next (raiseError .framing s) :=
  if_pos h

/-- A frame longer than `FBUF` is refused (R112). -/
theorem checkedFrame_of_long (h : 4 ≤ s.flen.toNat) (hlt : s.params.P + 4 < s.flen.toNat) :
    (if s.flen.toNat < 4 then refuseWith .framing s
      else if s.params.P + 4 < s.flen.toNat then refuseWith .oversize s else .next b)
      = .next (raiseError .oversize s) := by
  rw [if_neg (Nat.not_lt.mpr h), if_pos hlt]
  rfl

theorem exec_deserialize_of_legal (h : 4 ≤ s.flen.toNat) (hle : s.flen.toNat ≤ s.params.P + 4) :
    exec .deserialize s = .next (deserializeBody s) :=
  checkedFrame_of_legal s _ h hle

theorem exec_decode_of_legal (h : 4 ≤ s.flen.toNat) (hle : s.flen.toNat ≤ s.params.P + 4) :
    exec .decode s = .next (verifyStep (deserializeBody s)) :=
  checkedFrame_of_legal s _ h hle

end

/-! ## The buffers after a command -/

/-- What a store from index 0 up laid is what the buffer reads there. -/
theorem pbufByte_of_store_zero (s t : State) (bytes : List Byte) (i : Nat) (b : Byte)
    (hbuf : t.pbuf = s.pbuf.store 0 bytes) (hb : bytes[i]? = some b) : t.pbufByte i = b := by
  obtain ⟨hi, rfl⟩ := List.getElem?_eq_some_iff.mp hb
  rw [State.pbufByte, hbuf, Memory.get?_store_of_lt _ 0 bytes i (Nat.zero_le i) hi]
  rfl

/-- The same of the frame buffer. -/
theorem fbufByte_of_store_zero (s t : State) (bytes : List Byte) (i : Nat) (b : Byte)
    (hbuf : t.fbuf = s.fbuf.store 0 bytes) (hb : bytes[i]? = some b) : t.fbufByte i = b := by
  obtain ⟨hi, rfl⟩ := List.getElem?_eq_some_iff.mp hb
  rw [State.fbufByte, hbuf, Memory.get?_store_of_lt _ 0 bytes i (Nat.zero_le i) hi]
  rfl

section
variable (s : State)

@[simp] theorem serializeBody_fbufByte_zero : (serializeBody s).fbufByte 0 = s.pktType :=
  fbufByte_of_store_zero s _ s.frameImage 0 _ rfl rfl

@[simp] theorem serializeBody_fbufByte_one : (serializeBody s).fbufByte 1 = s.pktSeq :=
  fbufByte_of_store_zero s _ s.frameImage 1 _ rfl rfl

@[simp] theorem serializeBody_fbufByte_two : (serializeBody s).fbufByte 2 = s.pktCsum.extractLsb' 8 8 :=
  fbufByte_of_store_zero s _ s.frameImage 2 _ rfl rfl

@[simp] theorem serializeBody_fbufByte_three : (serializeBody s).fbufByte 3 = s.pktCsum.extractLsb' 0 8 :=
  fbufByte_of_store_zero s _ s.frameImage 3 _ rfl rfl

/-- The frame past its header: the payload, then zeros (R110). -/
theorem serializeBody_fbufByte_payload (hn : s.pktPlen.toNat ≤ s.params.P) (i : Nat) (hi : i < s.params.P) :
    (serializeBody s).fbufByte (4 + i) = if i < s.pktPlen.toNat then s.pbufByte i else 0x00 :=
  fbufByte_of_store_zero s _ s.frameImage (4 + i) _ rfl (frameImage_payload s i hi hn)

/-- The payload buffer after DESERIALIZE: the frame's payload, then zeros (R112). -/
theorem deserializeBody_pbufByte (i : Nat) (hi : i < s.params.P) :
    (deserializeBody s).pbufByte i = if i < s.flen.toNat - 4 then s.fbufByte (4 + i) else 0x00 :=
  pbufByte_of_store_zero s _ s.payloadImage i _ rfl (payloadImage_get s i hi)

/-- The payload length DESERIALIZE takes from the frame, without wrap (R112). -/
theorem deserializeBody_pktPlen_toNat : (deserializeBody s).pktPlen.toNat = s.flen.toNat - 4 := by
  have := s.flen.isLt
  rw [deserializeBody_pktPlen, BitVec.toNat_ofNat]
  omega

/-- A frame no longer than `FBUF` has a payload that fits, so DECODE can verify it (R117). -/
theorem deserializeBody_pktPlen_le (hlen : s.flen.toNat ≤ s.params.P + 4) :
    (deserializeBody s).pktPlen.toNat ≤ (deserializeBody s).params.P := by
  rw [deserializeBody_pktPlen_toNat, deserializeBody_params]
  omega

end

/-! ## CSUM_GEN and VERIFY -/

/-- An empty packet's checksum is the complement of its header word, whatever `PBUF` holds (R105). -/
theorem packetChecksum_of_empty (s : State) (hn : s.pktPlen = 0) : s.packetChecksum = ~~~ (s.pktType ++ s.pktSeq) := by
  rw [State.packetChecksum, hn]
  exact checksum_header_only _ _ _ _

theorem packetChecksum_of_two_bytes (s : State) (h : s.pktPlen.toNat ≤ s.params.P) (hn : s.pktPlen = 2) :
    s.packetChecksum = ~~~ onesSum [s.pktType ++ s.pktSeq, s.pbufByte 0 ++ s.pbufByte 1] := by
  rw [hn] at h
  rw [State.packetChecksum, hn]
  exact checksum_of_two_bytes _ _ _ _ h

/-- Settles O31: the command passes its check on the state and on the one it leaves, where the checksum is the same. -/
theorem csumGenSetsTheChecksum : Obligations.CsumGenSetsTheChecksum := by
  refine ⟨decodeInvertsEncode .csumGen rfl, fun s => ⟨fun h => ?_, checkedPayload_of_lt s _⟩⟩
  refine ⟨exec_csumGen_of_le s h, exec_csumGen_of_le (csumGenBody s) h, packetChecksum_of_empty s,
    fun buf hbuf => checksum_congr _ _ _ _ _ _ hbuf, fun ht hq hn h0 h1 => ?_⟩
  refine (packetChecksum_of_two_bytes s h hn).trans ?_
  rw [ht, hq, h0, h1]
  decide

/-- Settles O32: past its check VERIFY is the verification of R104. -/
theorem verifyComparesTheChecksum : Obligations.VerifyComparesTheChecksum := by
  refine ⟨decodeInvertsEncode .verify rfl, fun s => ⟨fun h => ⟨exec_verify_of_le s h, ?_⟩, checkedPayload_of_lt s _⟩⟩
  intro ht hq hn h0
  have hsum := packetChecksum_of_two_bytes s h hn
  rw [ht, hq, h0] at hsum
  exact ⟨fun h1 => hsum.trans (by rw [h1]; decide), fun h1 => hsum.trans (by rw [h1]; decide)⟩

/-! ## SERIALIZE and DESERIALIZE -/

theorem serializeBody_flen_eq_add (s : State) : (serializeBody s).flen = 4 + s.pktPlen := by
  rw [serializeBody_flen, BitVec.ofNat_add, BitVec.ofNat_toNat, BitVec.setWidth_eq]
  rfl

theorem deserializeBody_pktPlen_eq_sub (s : State) (h : 4 ≤ s.flen.toNat) :
    (deserializeBody s).pktPlen = s.flen - 4 := by
  apply BitVec.eq_of_toNat_eq
  rw [deserializeBody_pktPlen_toNat]
  bv_omega

/-- Settles O33: the frame's bytes are those of the image SERIALIZE stores. -/
theorem serializeWritesTheFrame : Obligations.SerializeWritesTheFrame := by
  refine ⟨decodeInvertsEncode .serialize rfl, fun s => ⟨fun h => ?_, checkedPayload_of_lt s _⟩⟩
  refine ⟨serializeBody s, exec_serialize_of_le s h, ?_, by simp, by simp, by simp, by simp, fun i hi => ?_,
    fun i hi hP => ?_⟩
  · rw [← serializeBody_flen_eq_add]; rfl
  · rw [serializeBody_fbufByte_payload s h i (Nat.lt_of_lt_of_le hi h), if_pos hi]
  · obtain ⟨k, rfl⟩ : ∃ k, i = 4 + k := ⟨i - 4, by omega⟩
    rw [serializeBody_fbufByte_payload s h k (by omega), if_neg (by omega)]

/-- Settles O34: the payload's bytes are those of the image DESERIALIZE stores. -/
theorem deserializeReadsTheFrame : Obligations.DeserializeReadsTheFrame := by
  refine ⟨decodeInvertsEncode .deserialize rfl, fun s =>
    ⟨fun h hle => ?_, checkedFrame_of_short s _, checkedFrame_of_long s _⟩⟩
  refine ⟨deserializeBody s, exec_deserialize_of_legal s h hle, ?_, fun i hi => ?_, fun i hi hP => ?_⟩
  · rw [← deserializeBody_pktPlen_eq_sub s h]; rfl
  · rw [deserializeBody_pbufByte s i (by omega), if_pos (by omega)]
  · rw [deserializeBody_pbufByte s i hP, if_neg (by omega)]

/-! ## ENCODE, DECODE and PKT_CLEAR -/

/-- Settles O35: both ways pass the same check, which CSUM_GEN does not affect, and end in the same state. -/
theorem encodeIsCsumGenThenSerialize : Obligations.EncodeIsCsumGenThenSerialize := by
  refine ⟨decodeInvertsEncode .encode rfl, fun s => ⟨fun h => ?_, checkedPayload_of_lt s _⟩⟩
  refine ⟨csumGenBody s, serializeBody (csumGenBody s), exec_csumGen_of_le s h, exec_serialize_of_le (csumGenBody s) h,
    exec_encode_of_le s h, rfl, fun ht hq hn => ?_⟩
  have hcsum : (csumGenBody s).pktCsum = 0xFCFA := by
    rw [csumGenBody_pktCsum, packetChecksum_of_empty s hn, ht, hq]; rfl
  have hplen : (csumGenBody s).pktPlen = 0 := hn
  rw [serializeBody_flen_eq_add, serializeBody_fbufByte_zero, serializeBody_fbufByte_one, serializeBody_fbufByte_two,
    serializeBody_fbufByte_three, hcsum, hplen]
  exact ⟨ht, hq, rfl, rfl, rfl⟩

/-- The checksum of the frame in `FBUF`, computed from its bytes (R100, R111). -/
def State.frameChecksum (s : State) : Word :=
  checksum s.params.P (s.fbufByte 0) (s.fbufByte 1) (fun i => s.fbufByte (4 + i)) (s.flen.toNat - 4)

/-- DECODE computes the frame's checksum (R117). -/
theorem deserializeBody_packetChecksum (s : State) (hle : s.flen.toNat ≤ s.params.P + 4) :
    (deserializeBody s).packetChecksum = s.frameChecksum := by
  rw [State.packetChecksum, State.frameChecksum, deserializeBody_pktPlen_toNat]
  refine checksum_congr _ _ _ _ _ _ (fun j hj => ?_)
  rw [deserializeBody_pbufByte s j (by omega), if_pos hj]

/-- DECODE compares it with the frame's checksum field (R117). -/
theorem decoded_vok (s : State) (hle : s.flen.toNat ≤ s.params.P + 4) :
    (verifyStep (deserializeBody s)).vok = decide (s.fbufByte 2 ++ s.fbufByte 3 = s.frameChecksum) := by
  rw [verifyStep_vok, deserializeBody_packetChecksum s hle, deserializeBody_pktCsum]

/-- Settles O36: both ways pass the same checks, after which the payload fits, and end in the same state. -/
theorem decodeIsDeserializeThenVerify : Obligations.DecodeIsDeserializeThenVerify := by
  refine ⟨decodeInvertsEncode .decode rfl, fun s =>
    ⟨fun h hle => ?_, checkedFrame_of_short s _, checkedFrame_of_long s _⟩⟩
  have hfits := deserializeBody_pktPlen_le s hle
  refine ⟨deserializeBody s, verifyStep (deserializeBody s), exec_deserialize_of_legal s h hle, hfits,
    exec_verify_of_le _ hfits, exec_decode_of_legal s h hle, rfl, fun hlen h0 h1 h2 h3 => ?_⟩
  have hsum : s.frameChecksum = 0xFFFF := by
    rw [State.frameChecksum, h0, h1, hlen]
    exact checksum_header_only _ _ _ _
  refine ⟨h0, h1, ?_, (deserializeBody_packetChecksum s hle).trans hsum, ?_⟩
  · rw [verifyStep_pktPlen, deserializeBody_pktPlen, hlen]; rfl
  · rw [decoded_vok s hle, hsum, h2, h3]; rfl

/-- A packet whose registers are all 0 does not verify, its checksum being that of a zero header (R119). -/
theorem verifyStep_of_cleared (s : State) (ht : s.pktType = 0x00) (hq : s.pktSeq = 0x00) (hc : s.pktCsum = 0x0000)
    (hn : s.pktPlen = 0) : (verifyStep s).csumCalc = 0xFFFF ∧ (verifyStep s).vok = false := by
  have hsum : s.packetChecksum = 0xFFFF := by rw [packetChecksum_of_empty s hn, ht, hq]; rfl
  rw [verifyStep_vok, verifyStep_csumCalc, hsum, hc]
  exact ⟨rfl, rfl⟩

/-- Settles O37: PKT_CLEAR has no check, and VERIFY passes its check because the cleared packet has no payload. -/
theorem pktClearZeroesThePacket : Obligations.PktClearZeroesThePacket := by
  refine ⟨decodeInvertsEncode .pktClear rfl, fun s => ?_⟩
  refine ⟨_, _, rfl, rfl, fun i hi => ?_, exec_verify_of_le _ (Nat.zero_le _), verifyStep_of_cleared _ rfl rfl rfl rfl⟩
  exact pbufByte_of_store_zero s _ (List.replicate s.params.P 0x00) i _ rfl (by simp [hi])

/-! ## Frames -/

/-- The frame's checksum depends on the frame's bytes other than the checksum field (R100, R102 (a)). -/
theorem frameChecksum_congr (r t : State) (hP : r.params.P = t.params.P) (hflen : r.flen = t.flen)
    (h : 4 ≤ t.flen.toNat) (hbytes : ∀ i, i < t.flen.toNat → i ≠ 2 → i ≠ 3 → r.fbufByte i = t.fbufByte i) :
    r.frameChecksum = t.frameChecksum := by
  rw [State.frameChecksum, State.frameChecksum, hP, hflen, hbytes 0 (by omega) (by omega) (by omega),
    hbytes 1 (by omega) (by omega) (by omega)]
  exact checksum_congr _ _ _ _ _ _ (fun j hj => hbytes (4 + j) (by omega) (by omega) (by omega))

/-- The payload capacity keeps `FLEN` within its 16 bits (R9, R110). -/
theorem serializeBody_flen_toNat (s : State) (hP : s.params.legal) (hn : s.pktPlen.toNat ≤ s.params.P) :
    (serializeBody s).flen.toNat = 4 + s.pktPlen.toNat := by
  obtain ⟨_, hmax⟩ := hP
  rw [serializeBody_flen, BitVec.toNat_ofNat]
  omega

/-- The frame SERIALIZE writes has the checksum of its packet (R110). -/
theorem serializeBody_frameChecksum (s : State) (hP : s.params.legal) (hn : s.pktPlen.toNat ≤ s.params.P) :
    (serializeBody s).frameChecksum = s.packetChecksum := by
  rw [State.frameChecksum, State.packetChecksum, serializeBody_flen_toNat s hP hn, Nat.add_sub_cancel_left,
    serializeBody_fbufByte_zero, serializeBody_fbufByte_one, serializeBody_params]
  refine checksum_congr _ _ _ _ _ _ (fun j hj => ?_)
  rw [serializeBody_fbufByte_payload s hn j (by omega), if_pos hj]

/-- A word is its two bytes, the high one first (R63). -/
theorem bytes_of_word (w : Word) : (w.extractLsb' 8 8 ++ w.extractLsb' 0 8 : Word) = w := commandWord_fields w

/-- Settles O38: the receiver's frame has the checksum of the packet, which is the one ENCODE put in its field. -/
theorem encodedFrameDecodesToThePacket : Obligations.EncodedFrameDecodesToThePacket := by
  intro s t r hlegal hn ht hP hflen hbytes
  obtain rfl : serializeBody (csumGenBody s) = t := by
    have := (exec_encode_of_le s hn).symm.trans ht
    injection this
  have hlen : (serializeBody (csumGenBody s)).flen.toNat = 4 + s.pktPlen.toNat :=
    serializeBody_flen_toNat (csumGenBody s) hlegal hn
  have hrlen : r.flen.toNat = 4 + s.pktPlen.toNat := by rw [hflen, hlen]
  have hrP : r.params.P = s.params.P := hP
  have hle : r.flen.toNat ≤ r.params.P + 4 := by omega
  have hbyte : ∀ i, i < 4 + s.pktPlen.toNat → r.fbufByte i = (serializeBody (csumGenBody s)).fbufByte i :=
    fun i hi => hbytes i (by omega)
  have hcsum : r.fbufByte 2 ++ r.fbufByte 3 = s.packetChecksum := by
    rw [hbyte 2 (by omega), hbyte 3 (by omega), serializeBody_fbufByte_two, serializeBody_fbufByte_three]
    exact bytes_of_word s.packetChecksum
  have hsum : r.frameChecksum = s.packetChecksum := by
    rw [frameChecksum_congr r _ hP hflen (by omega) (fun i hi _ _ => hbytes i hi)]
    exact serializeBody_frameChecksum (csumGenBody s) hlegal hn
  refine ⟨_, exec_decode_of_legal r (by omega) hle, ?_, ?_, ?_, hcsum, ?_, fun i hi => ?_, fun i hi hiP => ?_⟩
  · rw [decoded_vok r hle, hcsum, hsum, decide_eq_true rfl]
  · exact (hbyte 0 (by omega)).trans (serializeBody_fbufByte_zero _)
  · exact (hbyte 1 (by omega)).trans (serializeBody_fbufByte_one _)
  · apply BitVec.eq_of_toNat_eq
    rw [verifyStep_pktPlen, deserializeBody_pktPlen_toNat, hrlen, Nat.add_sub_cancel_left]
  · show (deserializeBody r).pbufByte i = s.pbufByte i
    rw [deserializeBody_pbufByte r i (by omega), if_pos (by omega), hbyte (4 + i) (by omega)]
    exact (serializeBody_fbufByte_payload (csumGenBody s) hn i (by simp; omega)).trans (if_pos hi)
  · show (deserializeBody r).pbufByte i = 0x00
    rw [deserializeBody_pbufByte r i hiP, if_neg (by omega)]

/-- A change of one byte of a frame outside the checksum field changes the frame's checksum (R102 (e)). -/
theorem frameChecksum_ne (s s' : State) (j : Nat) (h : 4 ≤ s.flen.toNat)
    (hle : s.flen.toNat ≤ s.params.P + 4) (hP : s'.params.P = s.params.P) (hflen : s'.flen = s.flen)
    (hj : j < s.flen.toNat) (hj2 : j ≠ 2) (hj3 : j ≠ 3)
    (hne : s'.fbufByte j ≠ s.fbufByte j)
    (hrest : ∀ i, i < s.flen.toNat → i ≠ j → s'.fbufByte i = s.fbufByte i) : s'.frameChecksum ≠ s.frameChecksum := by
  rw [State.frameChecksum, State.frameChecksum, hP, hflen]
  have hpayload : j < 4 → ∀ i, i < s.flen.toNat - 4 → s'.fbufByte (4 + i) = s.fbufByte (4 + i) :=
    fun _ i hi => hrest _ (by omega) (by omega)
  obtain rfl | rfl | hj4 : j = 0 ∨ j = 1 ∨ 4 ≤ j := by omega
  · rw [hrest 1 (by omega) (by omega), checksum_congr _ _ _ _ _ _ (hpayload (by omega))]
    exact checksum_ne_of_type _ _ _ _ _ _ hne
  · rw [hrest 0 (by omega) (by omega), checksum_congr _ _ _ _ _ _ (hpayload (by omega))]
    exact checksum_ne_of_seq _ _ _ _ _ _ hne
  · obtain ⟨i, rfl⟩ := Nat.exists_eq_add_of_le hj4
    rw [hrest 0 (by omega) (by omega), hrest 1 (by omega) (by omega)]
    exact checksum_ne_of_payload_byte _ _ _ _ _ _ i (by omega) (by omega) hne
      (fun k hk hki => hrest _ (by omega) (by omega))

/-- A change of one byte of a frame makes exactly one of the checksum field and the computed checksum another, so the
two are no longer equal. -/
theorem checksumField_ne_frameChecksum (s s' : State) (j : Nat) (h : 4 ≤ s.flen.toNat)
    (hle : s.flen.toNat ≤ s.params.P + 4) (hver : s.fbufByte 2 ++ s.fbufByte 3 = s.frameChecksum)
    (hP : s'.params.P = s.params.P) (hflen : s'.flen = s.flen) (hj : j < s.flen.toNat)
    (hne : s'.fbufByte j ≠ s.fbufByte j) (hrest : ∀ i, i < s.flen.toNat → i ≠ j → s'.fbufByte i = s.fbufByte i) :
    s'.fbufByte 2 ++ s'.fbufByte 3 ≠ s'.frameChecksum := by
  by_cases hfield : j = 2 ∨ j = 3
  · rw [frameChecksum_congr s' s hP hflen h (fun i hi h2 h3 => hrest i hi (by omega)), ← hver]
    intro heq
    obtain ⟨h2, h3⟩ := (commandWord_inj _ _ _ _).mp heq
    obtain rfl | rfl := hfield
    · exact hne h2
    · exact hne h3
  · rw [hrest 2 (by omega) (by omega), hrest 3 (by omega) (by omega), hver]
    exact (frameChecksum_ne s s' j h hle hP hflen hj (by omega) (by omega) hne hrest).symm

/-- Settles O39: DECODE of the first frame verifies because its checksum field is its checksum, and in the second frame
it is not. -/
theorem oneByteChangeOfAFrameIsDetected : Obligations.OneByteChangeOfAFrameIsDetected := by
  intro s t s' j h hle ht hvok hP hflen hj hne hrest
  obtain rfl : verifyStep (deserializeBody s) = t := by
    have := (exec_decode_of_legal s h hle).symm.trans ht
    injection this
  have hver : s.fbufByte 2 ++ s.fbufByte 3 = s.frameChecksum := of_decide_eq_true ((decoded_vok s hle).symm.trans hvok)
  have hle' : s'.flen.toNat ≤ s'.params.P + 4 := by rw [hflen, hP]; exact hle
  refine ⟨_, exec_decode_of_legal s' (by rw [hflen]; exact h) hle', ?_⟩
  rw [decoded_vok s' hle', decide_eq_false_iff_not]
  exact checksumField_ne_frameChecksum s s' j h hle hver hP hflen hj hne hrest

/-! ## What the codec leaves alone -/

/-- Settles O40: a codec command reports an error or ends in its body, and either writes these fields only. -/
theorem codecCommandsKeepToTheCodec : Obligations.CodecCommandsKeepToTheCodec := by
  intro i s t hi hx
  simp only [List.mem_cons, List.not_mem_nil, or_false] at hi
  obtain rfl | rfl | rfl | rfl | rfl | rfl | rfl := hi
  · obtain ⟨_, rfl⟩ | ⟨_, rfl⟩ := execCsumGen_next s t hx <;> rfl
  · obtain ⟨_, rfl⟩ | ⟨_, rfl⟩ := execVerify_next s t hx <;> rfl
  · obtain ⟨_, rfl⟩ | ⟨_, rfl⟩ := execSerialize_next s t hx <;> rfl
  · obtain ⟨_, rfl⟩ | ⟨_, rfl⟩ | ⟨_, _, rfl⟩ := execDeserialize_next s t hx <;> rfl
  · obtain ⟨_, rfl⟩ | ⟨_, rfl⟩ := execEncode_next s t hx <;> rfl
  · obtain ⟨_, rfl⟩ | ⟨_, rfl⟩ | ⟨_, _, rfl⟩ := execDecode_next s t hx <;> rfl
  · cases hx; rfl

end Sys2Proof.Machine
end

section
/-! PROOFS. VOK and the packet register set (40_codec.md R103, R104): an operation that leaves the packet register
set and VOK alone keeps the agreement, one that writes the set clears VOK, and the two that set VOK have just
compared the checksum. -/

namespace Sys2Proof.Machine

/-! ## What the agreement is about -/

/-- The fields `State.VokSound` is about; the reset count because it picks the bytes of `PBUF` nothing wrote. -/
def State.packetPart (s : State) : (Config.Params × Bool) × (Byte × Byte × Word × Word) × Memory × Nat :=
  ((s.params, s.vok), (s.pktType, s.pktSeq, s.pktCsum, s.pktPlen), s.pbuf, s.resets)

theorem State.VokSound.congr {s t : State} (h : s.VokSound) (he : t.packetPart = s.packetPart) : t.VokSound := by
  simp only [State.packetPart, Prod.mk.injEq] at he
  obtain ⟨⟨hparams, hvok⟩, ⟨htype, hseq, hcsum, hplen⟩, hpbuf, hresets⟩ := he
  have hsum : t.packetChecksum = s.packetChecksum :=
    packetChecksum_congr s t hparams htype hseq hplen hpbuf hresets
  intro hv
  obtain ⟨hlen, heq⟩ := (verifies_iff s).mp (h (hvok.symm.trans hv))
  rw [verifies_iff, hplen, hparams, hcsum, hsum]
  exact ⟨hlen, heq⟩

theorem vokSound_of_vok_eq_false {s : State} (h : s.vok = false) : s.VokSound :=
  fun hv => absurd (h.symm.trans hv) Bool.false_ne_true

/-- An error report is about neither VOK nor the packet (R263). -/
theorem raiseError_vokSound (code : ErrCode) (s : State) (h : s.VokSound) : (raiseError code s).VokSound :=
  h.congr rfl

theorem reply_vokSound (v : Option Word) (s : State) (h : s.VokSound) :
    ({ s with reply := v } : State).VokSound :=
  h.congr rfl

/-! ## The operations that set VOK -/

/-- `verify_step()` sets VOK only if `verify()` holds, its callers having checked `PKT_PLEN` (R104). -/
theorem verifyStep_vokSound (s : State) (hlen : s.payloadTooLong = false) : (verifyStep s).VokSound := by
  intro hv
  exact (verifies_iff _).mpr ⟨(payloadTooLong_eq_false s).mp hlen, of_decide_eq_true hv⟩

/-- CSUM_GEN sets VOK because the checksum it stores is the packet's own (R105). -/
theorem csumGenBody_vokSound (s : State) (hlen : s.payloadTooLong = false) : (csumGenBody s).VokSound := by
  intro _
  exact (verifies_iff _).mpr ⟨(payloadTooLong_eq_false s).mp hlen, rfl⟩

/-! ## The operations that leave VOK and the packet alone -/

/-- Judging a frame moves the window only (R178). -/
theorem judgeAck_packetPart (s : State) : (judgeAck s).packetPart = s.packetPart := by
  obtain ⟨_, _, _, h⟩ | ⟨_, _, _, _, _, h⟩ | h := judgeAck_cases s <;> rw [h] <;> rfl

theorem timerTick_packetPart (s : State) : (timerTick s).packetPart = s.packetPart := by
  simp [State.packetPart]

/-- A register outside the packet register set is no part of the packet (R103). -/
theorem hostWriteReg_packetPart (r : Reg) (v : Word) (s : State) (hr : inPacketSet r = false) :
    (hostWriteReg r v s).packetPart = s.packetPart := by
  cases r with
  | pktType | pktSeq | pktCsum | pktPlen => cases hr
  | _ => rfl

/-- A register write clears VOK or leaves the packet alone (R103, R246). -/
theorem hostWriteReg_vokSound (r : Reg) (v : Word) (s : State) (h : s.VokSound) :
    (hostWriteReg r v s).VokSound := by
  cases hr : inPacketSet r with
  | true => exact vokSound_of_vok_eq_false (if_pos hr)
  | false => exact h.congr (hostWriteReg_packetPart r v s hr)

/-! ## Commands, host transactions and steps -/

/-- No command breaks the agreement: SERIALIZE writes the frame only, DESERIALIZE and PKT_CLEAR clear VOK, and the
commands that verify have refused an oversize packet first. -/
theorem exec_command_vokSound (c : Instr) (s t : State) (hc : c.isCommand = true) (h : s.VokSound)
    (hx : exec c s = .next t) : t.VokSound := by
  cases c with
  | nop | errClr | ctxReset | seqReset | seqInc | attClr | attInc | tmrArm | tmrDisarm =>
    cases hx; exact h.congr rfl
  | csumGen =>
    obtain ⟨_, rfl⟩ | ⟨hlen, rfl⟩ := execCsumGen_next s t hx
    · exact raiseError_vokSound _ s h
    · exact csumGenBody_vokSound s hlen
  | verify =>
    obtain ⟨_, rfl⟩ | ⟨hlen, rfl⟩ := execVerify_next s t hx
    · exact raiseError_vokSound _ s h
    · exact verifyStep_vokSound s hlen
  | serialize => obtain ⟨_, rfl⟩ | ⟨_, rfl⟩ := execSerialize_next s t hx <;> exact h.congr rfl
  | encode =>
    obtain ⟨_, rfl⟩ | ⟨hlen, rfl⟩ := execEncode_next s t hx
    · exact raiseError_vokSound _ s h
    · exact (csumGenBody_vokSound s hlen).congr rfl
  | deserialize =>
    obtain ⟨_, rfl⟩ | ⟨_, rfl⟩ | ⟨_, _, rfl⟩ := execDeserialize_next s t hx
    · exact raiseError_vokSound _ s h
    · exact raiseError_vokSound _ s h
    · exact vokSound_of_vok_eq_false rfl
  | decode =>
    obtain ⟨_, rfl⟩ | ⟨_, rfl⟩ | ⟨_, hlen, rfl⟩ := execDecode_next s t hx
    · exact raiseError_vokSound _ s h
    · exact raiseError_vokSound _ s h
    · exact verifyStep_vokSound _ ((payloadTooLong_eq_false _).mpr (deserializeBody_pktPlen_le s hlen))
  | pktClear => cases hx; exact vokSound_of_vok_eq_false rfl
  | lcSet S => obtain ⟨_, rfl⟩ | ⟨_, _, ⟨_, rfl⟩ | ⟨_, rfl⟩⟩ := execLcSet_next S s t hx <;> exact h.congr rfl
  | winStart => obtain ⟨_, rfl⟩ | ⟨_, rfl⟩ | ⟨_, _, _, rfl⟩ := execWinStart_next s t hx <;> exact h.congr rfl
  | winSent => obtain ⟨_, rfl⟩ | ⟨_, rfl⟩ | ⟨_, _, rfl⟩ := execWinSent_next s t hx <;> exact h.congr rfl
  | winAck =>
    obtain ⟨_, rfl⟩ | ⟨_, rfl⟩ | ⟨_, hlen, rfl⟩ := execWinAck_next s t hx
    · exact raiseError_vokSound _ s h
    · exact raiseError_vokSound _ s h
    · exact (verifyStep_vokSound s hlen).congr (judgeAck_packetPart _)
  | winFail => obtain ⟨_, rfl⟩ | ⟨_, rfl⟩ := execWinFail_next s t hx <;> exact h.congr rfl
  | rxClassify =>
    obtain ⟨_, rfl⟩ | ⟨_, rfl⟩ | ⟨_, hlen, rfl⟩ := execRxClassify_next s t hx
    · exact raiseError_vokSound _ s h
    · exact raiseError_vokSound _ s h
    · exact (verifyStep_vokSound s hlen).congr rfl
  | rxCommit => obtain ⟨_, rfl⟩ | ⟨_, _, rfl⟩ | ⟨_, _, rfl⟩ := execRxCommit_next s t hx <;> exact h.congr rfl
  | regRd | regWr | pbRd | pbWr | fbRd | fbWr => cases hc

/-- No instruction breaks the agreement; a write of `CMD` because the command it executes does not, a write of
`PBUF` because it clears VOK. -/
theorem exec_vokSound (i : Instr) (s t : State) (h : s.VokSound) (hx : exec i s = .next t) : t.VokSound := by
  cases hc : i.isCommand with
  | true => exact exec_command_vokSound i s t hc h hx
  | false =>
    cases i with
    | regRd a => obtain ⟨_, rfl⟩ | ⟨_, _, rfl⟩ := execRegRd_next a s t hx <;> exact h.congr rfl
    | regWr a d =>
      obtain rfl | ⟨_, _, rfl⟩ | ⟨c, _, hd, hcmd⟩ | ⟨r, _, _, _, rfl⟩ := exec_regWr_next a d s t hx
      · exact raiseError_vokSound _ s h
      · exact raiseError_vokSound _ s h
      · exact exec_command_vokSound c s t (isCommand_of_decodeCommand d c hd) h hcmd
      · exact hostWriteReg_vokSound r d s h
    | pbRd a => obtain ⟨_, rfl⟩ | ⟨_, rfl⟩ := execPbRd_next a s t hx <;> exact h.congr rfl
    | pbWr a d =>
      obtain ⟨_, rfl⟩ | ⟨_, rfl⟩ := execPbWr_next a d s t hx
      · exact raiseError_vokSound _ s h
      · exact vokSound_of_vok_eq_false rfl
    | fbRd a => obtain ⟨_, rfl⟩ | ⟨_, rfl⟩ := execFbRd_next a s t hx <;> exact h.congr rfl
    | fbWr a d => obtain ⟨_, rfl⟩ | ⟨_, rfl⟩ := execFbWr_next a d s t hx <;> exact h.congr rfl
    | _ => cases hc

theorem runTransaction_vokSound (w : BitVec 35) (s t : State) (h : s.VokSound)
    (hx : runTransaction w s = .next t) : t.VokSound := by
  obtain ⟨i, _, hi⟩ | ⟨_, _, rfl⟩ := runTransaction_next w s t hx
  · exact exec_vokSound i s t h hi
  · exact reply_vokSound _ _ (raiseError_vokSound _ s h)

/-- Settles O15: taking an input is about neither VOK nor the packet; then a transaction keeps the agreement, a tick
leaves both alone, and a reset clears VOK. -/
theorem vokAlwaysMeansVerified : Obligations.VokAlwaysMeansVerified := by
  intro s t h hstep
  obtain ⟨_, rfl⟩ | ⟨w, rest, _, hr⟩ | ⟨rest, _, rfl⟩ | ⟨rest, _, rfl⟩ := step_next s t hstep
  · exact h
  · have hbegin : (beginTransaction rest s).VokSound := h.congr rfl
    exact runTransaction_vokSound w _ t hbegin hr
  · have htake : (takeInput rest s).VokSound := h.congr rfl
    exact htake.congr (timerTick_packetPart _)
  · exact vokSound_of_vok_eq_false rfl

end Sys2Proof.Machine
end

section
/-! PROOFS. The statements of 41_context.md. LC_SET's legal pairs are compared by their codes; attempts are counted
from any count, so that a run of them is one induction; and the lifecycle state is followed through commands,
transactions and steps. -/

namespace Sys2Proof.Machine

/-! ## Lifecycle codes and LC_SET -/

theorem lifecycleOfCode_lifecycleCode (c : Lifecycle) :
    lifecycleOfCode (BitVec.ofNat 3 (lifecycleCode c)) = some c := by
  cases c <;> rfl

theorem lifecycleCode_injective : Function.Injective lifecycleCode := by
  intro a b h
  rw [← Option.some_inj, ← lifecycleOfCode_lifecycleCode a, h, lifecycleOfCode_lifecycleCode b]

/-- A code below 6 names the state it is the code of (R30). -/
theorem lifecycleOfCode_of_code (S : BitVec 3) (target : Lifecycle) (h : lifecycleCode target = S.toNat) :
    lifecycleOfCode S = some target := by
  rw [lifecycleOfCode, ← h]
  cases target <;> rfl

/-- The legal transitions by their codes (R30, R140): distinct states have distinct codes. -/
theorem legalTransition_iff_codes (cur target : Lifecycle) :
    legalTransition cur target = true ↔
      lifecycleCode target = lifecycleCode cur ∨
        (lifecycleCode cur, lifecycleCode target) ∈
          [(0, 1), (1, 3), (1, 0), (0, 2), (2, 3), (3, 4), (4, 0), (4, 3), (3, 5), (5, 0)] := by
  have hrows : (lifecycleCode cur, lifecycleCode target) ∈
      legalTransitions.map (Prod.map lifecycleCode lifecycleCode) ↔ (cur, target) ∈ legalTransitions :=
    List.mem_map_of_injective (a := (cur, target)) (lifecycleCode_injective.prodMap lifecycleCode_injective)
  simp only [legalTransition, Bool.or_eq_true, decide_eq_true_eq, ← hrows, lifecycleCode_injective.eq_iff]
  rfl

section
variable (s : State) (S : BitVec 3) (target : Lifecycle)

theorem exec_lcSet_of_legal (hS : lifecycleOfCode S = some target) (h : legalTransition s.lcState target = true) :
    exec (.lcSet S) s = .next (enterLifecycle target s) := by
  simp only [exec, execLcSet, hS, h, if_true]

theorem exec_lcSet_of_illegal (hS : lifecycleOfCode S = some target)
    (h : ¬ legalTransition s.lcState target = true) :
    exec (.lcSet S) s = .next (raiseError .badTransition s) := by
  simp only [exec, execLcSet, hS, if_neg h, refuseWith]

/-- The entries to ESTABLISHED that reset `EXP_SEQ`, by their codes (R142). -/
theorem opensConnection_iff_codes :
    (target = .established ∧ (s.lcState = .synSent ∨ s.lcState = .synRcvd)) ↔
      lifecycleCode target = 3 ∧ (lifecycleCode s.lcState = 1 ∨ lifecycleCode s.lcState = 2) :=
  and_congr (lifecycleCode_injective.eq_iff (b := .established)).symm
    (or_congr (lifecycleCode_injective.eq_iff (b := .synSent)).symm
      (lifecycleCode_injective.eq_iff (b := .synRcvd)).symm)

theorem enterLifecycle_of_open (h : target = .established ∧ (s.lcState = .synSent ∨ s.lcState = .synRcvd)) :
    enterLifecycle target s = { s with lcState := target, expSeq := 0x00 } := by
  rw [enterLifecycle, if_pos h]

theorem enterLifecycle_of_not_open
    (h : ¬ (target = .established ∧ (s.lcState = .synSent ∨ s.lcState = .synRcvd))) :
    enterLifecycle target s = { s with lcState := target } := by
  rw [enterLifecycle, if_neg h]

end

/-- The codes 6 and 7 are reserved (R87). -/
theorem decodeCommand_commandWord_lcSet_reserved (S : BitVec 3) (hS : 6 ≤ S.toNat) :
    decodeCommand (commandWord ((0 : BitVec 5) ++ S) 0x10) = .error .reservedLifecycleCode := by
  have hhigh : ((0 : BitVec 5) ++ S).extractLsb' 3 5 = 0 := BitVec.extractLsb'_append_eq_left
  have hlow : ((0 : BitVec 5) ++ S).extractLsb' 0 3 = S := BitVec.extractLsb'_append_eq_right
  rw [decodeCommand_of_lcSet _ (opField_commandWord _ _), argField_commandWord, hhigh, hlow,
    if_neg (not_not.mpr rfl), if_pos hS]

/-- Settles O41: the target code names its state, a pair of codes is legal exactly when the pair of states is, and
entering a state differs only in whether it opens the connection. -/
theorem lcSetFollowsTheLegalTransitions : Obligations.LcSetFollowsTheLegalTransitions := by
  refine ⟨decodeCommand_commandWord_lcSet, decodeCommand_commandWord_lcSet_reserved, fun s S target hcode => ?_⟩
  have hS : lifecycleOfCode S = some target := lifecycleOfCode_of_code S target hcode
  rw [← hcode]
  refine ⟨fun hlegal h3 hcur => ?_, fun hlegal hkeep => ?_, fun hillegal => ?_⟩
  · rw [exec_lcSet_of_legal s S target hS ((legalTransition_iff_codes _ _).mpr hlegal),
      enterLifecycle_of_open s target ((opensConnection_iff_codes s target).mpr ⟨h3, hcur⟩)]
  · rw [exec_lcSet_of_legal s S target hS ((legalTransition_iff_codes _ _).mpr hlegal),
      enterLifecycle_of_not_open s target fun h => hkeep ((opensConnection_iff_codes s target).mp h)]
  · exact exec_lcSet_of_illegal s S target hS fun h => hillegal ((legalTransition_iff_codes _ _).mp h)

/-! ## CTX_RESET and the sequence counter -/

/-- Settles O42: the meaning of CTX_RESET is the record update R144 lists. -/
theorem ctxResetClearsTheContext : Obligations.CtxResetClearsTheContext :=
  ⟨decodeInvertsEncode .ctxReset rfl, fun _ => rfl⟩

/-- A sequence number's successor, modulo 256 (R148). -/
theorem seq_succ_eq (q : Byte) : q + 1 = BitVec.ofNat 8 ((q.toNat + 1) % 256) := by
  apply BitVec.eq_of_toNat_eq
  simp

/-- Settles O43: counting up in 8 bits is counting modulo 256. -/
theorem sequenceCounterCommands : Obligations.SequenceCounterCommands := by
  refine ⟨decodeInvertsEncode .seqReset rfl, decodeInvertsEncode .seqInc rfl, fun s => ⟨rfl, ?_⟩⟩
  rw [← seq_succ_eq]
  rfl

/-! ## The attempt counter -/

/-- The state when `n` attempts of a phase are counted: `ATT_CNT` is `n`, and ATT_EXH whether `n` reaches the limit of
the phase (R150). -/
def State.withAttempts (s : State) (PH : Phase) (n : Nat) : State :=
  { s with attCnt := BitVec.ofNat 8 n, attExh := decide ((s.phaseLimit PH).toNat ≤ n) }

/-- ATT_INC counts one attempt more, up to 255 (R150). -/
theorem exec_attInc (PH : Phase) (s : State) :
    exec (.attInc PH) s = .next (s.withAttempts PH (min (s.attCnt.toNat + 1) 255)) := by
  rw [State.withAttempts, ← saturatingInc_toNat, BitVec.ofNat_toNat, BitVec.setWidth_eq]
  rfl

theorem withAttempts_attCnt_toNat (s : State) (PH : Phase) (n : Nat) :
    (s.withAttempts PH (min n 255)).attCnt.toNat = min n 255 :=
  Nat.mod_eq_of_lt (Nat.lt_succ_of_le (Nat.min_le_right n 255))

/-- The two fields written depend on neither's old value, and the limits are not written. -/
theorem withAttempts_of_overwritten (s : State) (PH : Phase) (c : Byte) (e : Bool) (n : Nat) :
    ({ s with attCnt := c, attExh := e } : State).withAttempts PH n = s.withAttempts PH n := by
  cases PH <;> rfl

theorem withAttempts_withAttempts (s : State) (PH : Phase) (m n : Nat) :
    (s.withAttempts PH m).withAttempts PH n = s.withAttempts PH n :=
  withAttempts_of_overwritten s PH _ _ n

theorem runAll_cons_of_next (i : Instr) (rest : List Instr) (s t : State) (h : exec i s = .next t) :
    runAll (i :: rest) s = runAll rest t := by
  simp only [runAll, h]

/-- A run of attempts of one phase adds their number to the count, up to 255. -/
theorem runAll_attInc (PH : Phase) (k : Nat) : ∀ s : State,
    runAll (List.replicate (k + 1) (.attInc PH)) s
      = .next (s.withAttempts PH (min (s.attCnt.toNat + (k + 1)) 255)) := by
  induction k with
  | zero => exact fun s => runAll_cons_of_next _ [] _ _ (exec_attInc PH s)
  | succ k ih =>
    intro s
    have hsum : min (min (s.attCnt.toNat + 1) 255 + (k + 1)) 255 = min (s.attCnt.toNat + (k + 1 + 1)) 255 := by
      omega
    rw [List.replicate_succ, runAll_cons_of_next _ _ _ _ (exec_attInc PH s), ih,
      withAttempts_attCnt_toNat, withAttempts_withAttempts, hsum]

/-- After ATT_CLR the count is the number of attempts, up to 255. -/
theorem runAll_attClr_attInc (PH : Phase) (s : State) (k : Nat) (hk : 1 ≤ k) :
    runAll (.attClr :: List.replicate k (.attInc PH)) s = .next (s.withAttempts PH (min k 255)) := by
  obtain ⟨k, rfl⟩ := Nat.exists_eq_add_of_le' hk
  rw [runAll_cons_of_next .attClr _ s _ rfl, runAll_attInc, withAttempts_of_overwritten]
  simp

/-- A limit is at most 255, so the saturated count still reaches it. -/
theorem withAttempts_attExh_iff (s : State) (PH : Phase) (k : Nat) :
    (s.withAttempts PH (min k 255)).attExh = true ↔ (s.phaseLimit PH).toNat ≤ k := by
  have hle : (s.phaseLimit PH).toNat ≤ 255 := Nat.le_of_lt_succ (s.phaseLimit PH).isLt
  simp only [State.withAttempts, decide_eq_true_eq]
  omega

/-- Settles O45: for either phase the state after `k` attempts is the one that counts `k`, up to 255. -/
theorem attemptsExhaustAtTheLimit : Obligations.AttemptsExhaustAtTheLimit := by
  intro s k hk
  refine ⟨⟨_, runAll_attClr_attInc .connect s k hk, rfl, ?_, ?_⟩, ⟨_, runAll_attClr_attInc .close s k hk, rfl, ?_, ?_⟩⟩
  · exact withAttempts_attCnt_toNat s .connect k
  · exact withAttempts_attExh_iff s .connect k
  · exact withAttempts_attCnt_toNat s .close k
  · exact withAttempts_attExh_iff s .close k

/-- An ATT_INC with an argument bit beyond its phase set is illegal (R86, R87). -/
theorem decodeCommand_attInc_argumentBits (w : BitVec 16) (hop : w.extractLsb' 0 8 = 0x15)
    (harg : w.extractLsb' 9 7 ≠ 0) : decodeCommand w = .error .argumentBits := by
  rw [decodeCommand_of_attInc w hop, extractLsb'_argField w 1 7 (by decide), if_pos harg]

/-- Settles O44: ATT_INC of either phase is one lemma, read at the two phases. -/
theorem attemptCounterCommands : Obligations.AttemptCounterCommands :=
  ⟨decodeInvertsEncode .attClr rfl, decodeInvertsEncode (.attInc .connect) rfl,
    decodeInvertsEncode (.attInc .close) rfl, decodeCommand_attInc_argumentBits,
    fun s => ⟨rfl, exec_attInc .connect s, exec_attInc .close s⟩⟩

/-! ## What changes the lifecycle state -/

/-- The commands that may change `LC_STATE` in a state (R143). -/
def MovesLifecycle (c : Instr) (s : State) : Prop :=
  (∃ S, c = .lcSet S) ∨ c = .ctxReset ∨ (c = .rxCommit ∧ s.rxAction = .fin)

@[simp] theorem judgeAck_lcState (s : State) : (judgeAck s).lcState = s.lcState := by
  obtain ⟨_, _, _, h⟩ | ⟨_, _, _, _, _, h⟩ | h := judgeAck_cases s <;> simp [h]

@[simp] theorem classify_lcState (s : State) : (classify s).lcState = s.lcState := rfl

/-- No command but those of R143 changes the lifecycle state. -/
theorem exec_command_lcState (c : Instr) (s t : State) (hc : c.isCommand = true) (h : exec c s = .next t)
    (hmoves : ¬ MovesLifecycle c s) : t.lcState = s.lcState := by
  cases c with
  | lcSet S => exact absurd (.inl ⟨S, rfl⟩) hmoves
  | ctxReset => exact absurd (.inr (.inl rfl)) hmoves
  | rxCommit =>
    obtain ⟨_, rfl⟩ | ⟨_, _, rfl⟩ | ⟨_, _, rfl⟩ := execRxCommit_next s t h
    · exact raiseError_lcState s _
    · exact raiseError_lcState s _
    · exact if_neg fun hfin => hmoves (.inr (.inr ⟨rfl, hfin⟩))
  | nop | pktClear | errClr | seqReset | seqInc | attClr | attInc | tmrArm | tmrDisarm => cases h; rfl
  | csumGen => obtain ⟨_, rfl⟩ | ⟨_, rfl⟩ := execCsumGen_next s t h <;> simp
  | verify => obtain ⟨_, rfl⟩ | ⟨_, rfl⟩ := execVerify_next s t h <;> simp
  | serialize => obtain ⟨_, rfl⟩ | ⟨_, rfl⟩ := execSerialize_next s t h <;> simp
  | encode => obtain ⟨_, rfl⟩ | ⟨_, rfl⟩ := execEncode_next s t h <;> simp
  | deserialize => obtain ⟨_, rfl⟩ | ⟨_, rfl⟩ | ⟨_, _, rfl⟩ := execDeserialize_next s t h <;> simp
  | decode => obtain ⟨_, rfl⟩ | ⟨_, rfl⟩ | ⟨_, _, rfl⟩ := execDecode_next s t h <;> simp
  | winStart => obtain ⟨_, rfl⟩ | ⟨_, rfl⟩ | ⟨_, _, _, rfl⟩ := execWinStart_next s t h <;> simp
  | winSent => obtain ⟨_, rfl⟩ | ⟨_, rfl⟩ | ⟨_, _, rfl⟩ := execWinSent_next s t h <;> simp
  | winAck => obtain ⟨_, rfl⟩ | ⟨_, rfl⟩ | ⟨_, _, rfl⟩ := execWinAck_next s t h <;> simp
  | winFail => obtain ⟨_, rfl⟩ | ⟨_, rfl⟩ := execWinFail_next s t h <;> simp
  | rxClassify => obtain ⟨_, rfl⟩ | ⟨_, rfl⟩ | ⟨_, _, rfl⟩ := execRxClassify_next s t h <;> simp
  | regRd | regWr | pbRd | pbWr | fbRd | fbWr => cases hc

/-- `CMD` stands at its one address, 0x0001 (R24, R61). -/
theorem address_of_cmd (a : BitVec 16) (h : regOfAddress a = some .cmd) : a = 0x0001 := by
  have hindex : ∀ i : BitVec 6, regOfIndex i = some .cmd → i = 0x01 := by decide
  unfold regOfAddress at h
  split at h
  · cases h
  next hhigh =>
    have ha : (0 : BitVec 10) ++ a.extractLsb' 0 6 = a :=
      eq_append_of_high_zero (m := 10) (n := 6) a (not_not.mp hhigh)
    rw [← ha, hindex _ h]
    rfl

/-- A write of `CMD` with a legal command word issues that command (R244). -/
theorem issuedBy_cmdWrite (a d : BitVec 16) (c : Instr) (ha : regOfAddress a = some .cmd)
    (hd : decodeCommand d = .ok c) : issuedBy (.regWr a d) = c := by
  simp only [issuedBy, address_of_cmd a ha, if_true, hd]

/-- A host transaction changes the lifecycle state only by a command it issues. -/
theorem exec_transaction_lcState (i : Instr) (s t : State) (hi : i.isCommand = false) (h : exec i s = .next t)
    (hmoves : ¬ MovesLifecycle (issuedBy i) s) : t.lcState = s.lcState := by
  cases i with
  | regRd a => obtain ⟨_, rfl⟩ | ⟨_, _, rfl⟩ := execRegRd_next a s t h <;> simp
  | regWr a d =>
    obtain rfl | ⟨_, _, rfl⟩ | ⟨c, ha, hd, hx⟩ | ⟨r, _, _, _, rfl⟩ := exec_regWr_next a d s t h
    · exact raiseError_lcState s .badReg
    · exact raiseError_lcState s .illegalCmd
    · rw [issuedBy_cmdWrite a d c ha hd] at hmoves
      exact exec_command_lcState c s t (isCommand_of_decodeCommand d c hd) hx hmoves
    · exact hostWriteReg_lcState s r d
  | pbRd a => obtain ⟨_, rfl⟩ | ⟨_, rfl⟩ := execPbRd_next a s t h <;> simp
  | pbWr a d => obtain ⟨_, rfl⟩ | ⟨_, rfl⟩ := execPbWr_next a d s t h <;> simp
  | fbRd a => obtain ⟨_, rfl⟩ | ⟨_, rfl⟩ := execFbRd_next a s t h <;> simp
  | fbWr a d => obtain ⟨_, rfl⟩ | ⟨_, rfl⟩ := execFbWr_next a d s t h <;> simp
  | _ => cases hi

/-- A transaction that decodes issues what its instruction comes to. -/
theorem issued_of_decodeTransaction (w : BitVec 35) (i : Instr) (hd : decodeTransaction w = .ok i) :
    (Input.transaction w).issued = some (issuedBy i) := by
  simp only [Input.issued, hd]

/-- A step on anything but a reset changes the lifecycle state only by a command of R143 that its input issues. -/
theorem step_lcState (s t : State) (x : Input) (rest : List Input) (hs : s.inputs = x :: rest)
    (hstep : step s = .next t) (hreset : x ≠ .reset)
    (hmoves : ∀ c, x.issued = some c → ¬ MovesLifecycle c s) : t.lcState = s.lcState := by
  obtain ⟨hnil, _⟩ | ⟨w, rest', hw, hr⟩ | ⟨rest', _, rfl⟩ | ⟨rest', hrst, _⟩ := step_next s t hstep
  · cases hs.symm.trans hnil
  · cases hs.symm.trans hw
    obtain ⟨i, hd, hx⟩ | ⟨_, _, rfl⟩ := runTransaction_next w _ t hr
    · exact exec_transaction_lcState i (beginTransaction rest s) t (not_isCommand_of_decodeTransaction w i hd) hx
        (hmoves _ (issued_of_decodeTransaction w i hd))
    · rfl
  · simp
  · cases hs.symm.trans hrst
    exact absurd rfl hreset

/-- Settles O46: a step that changes the lifecycle state is a reset or issues one of the commands of R143. -/
theorem lifecycleChangesOnlyOnCommand : Obligations.LifecycleChangesOnlyOnCommand := by
  intro s t x rest hs hstep hne
  by_contra hnone
  simp only [not_or] at hnone
  obtain ⟨hreset, hlcSet, hctxReset, hcommit⟩ := hnone
  refine hne (step_lcState s t x rest hs hstep hreset fun c hc hmoves => ?_)
  obtain ⟨S, rfl⟩ | rfl | ⟨rfl, hfin⟩ := hmoves
  · exact hlcSet ⟨S, hc⟩
  · exact hctxReset hc
  · exact hcommit ⟨hc, hfin⟩

end Sys2Proof.Machine
end

section
/-! PROOFS. The statements of 42_window.md. First each command of the window unit; then, said once, what an
instruction and a step can do to a send, from which the anchoring of its base and the bound on its outcome reports
follow. -/

namespace Sys2Proof.Machine

/-! ## WIN_START and WIN_SENT -/

/-- Settles O47: the checks of WIN_START, in their order, decide between its three outcomes. -/
theorem winStartBeginsASend : Obligations.WinStartBeginsASend := by
  refine ⟨decodeInvertsEncode .winStart rfl, fun s => ⟨fun hlc hn hn' => ?_, fun hlc => if_pos hlc,
    fun hlc hn => ?_⟩⟩
  · have hcount : ¬ (s.winN.toNat < 1 ∨ 256 < s.winN.toNat) := by omega
    exact (if_neg (not_not.mpr hlc)).trans (if_neg hcount)
  · have hcount : s.winN.toNat < 1 ∨ 256 < s.winN.toNat := by omega
    exact (if_neg (not_not.mpr hlc)).trans (if_pos hcount)

/-- Without a send, the check the other commands of the unit begin with fails (R176, R178, R181). -/
theorem checkedSend_of_inactive (s : State) (o : Host.Outcome State Fault Refusal) (h : s.winActive = false) :
    (if ¬ s.winActive then refuseWith .winInactive s else o) = .next (raiseError .winInactive s) :=
  if_pos (Bool.eq_false_iff.mp h)

/-- During a send it passes. -/
theorem checkedSend_of_active (s : State) (o : Host.Outcome State Fault Refusal) (h : s.winActive = true) :
    (if ¬ s.winActive then refuseWith .winInactive s else o) = o :=
  if_neg (not_not.mpr h)

/-- A cursor within the window is below 511, so it advances without wrap. -/
theorem cursor_succ_toNat (s : State) (h : s.winCursor.toNat ≤ s.winTop) :
    (s.winCursor + 1).toNat = s.winCursor.toNat + 1 := by
  have htop := winTop_lt s
  bv_omega

/-- Settles O48: past its two checks WIN_SENT moves the cursor, which does not wrap. -/
theorem winSentAdvancesTheCursor : Obligations.WinSentAdvancesTheCursor := by
  refine ⟨decodeInvertsEncode .winSent rfl, fun s => ⟨fun hactive hcursor => ?_, checkedSend_of_inactive s _,
    fun hactive hcursor => (checkedSend_of_active s _ hactive).trans (if_pos hcursor)⟩⟩
  exact ⟨_, (checkedSend_of_active s _ hactive).trans (if_neg (Nat.not_lt.mpr hcursor)), rfl,
    cursor_succ_toNat s hcursor⟩

/-! ## The two outcomes of a wait -/

section
variable (s : State)

/-- A correct acknowledgement during a send: the send goes on unless the new base is its end (R173). -/
theorem advanceTo_of_send (b : Nat) (hactive : s.winActive = true) (hdone : s.winDone = false) :
    advanceTo b s = { s with
      winBase := BitVec.ofNat 9 b, winWs := 2, winFailcnt := 0
      winCursor := BitVec.ofNat 9 (max s.winCursor.toNat b)
      expSeq := s.winAnchor + BitVec.ofNat 8 b
      winActive := decide (b ≠ s.winN.toNat), winDone := decide (b = s.winN.toNat) } := by
  by_cases hend : b = s.winN.toNat <;> simp [advanceTo, State.seqw, hend, hactive, hdone]

/-- A failure below the limit is counted (R173). -/
theorem failWait_of_lt (h : min (s.winFailcnt.toNat + 1) 255 < s.limData.toNat) :
    failWait s = { s with
      winCursor := s.winBase, winWs := 1, winFailcnt := BitVec.ofNat 8 (min (s.winFailcnt.toNat + 1) 255) } := by
  have hlim : ¬ s.limData.toNat ≤ (saturatingInc s.winFailcnt).toNat := by rwa [saturatingInc_toNat, Nat.not_le]
  rw [failWait, if_neg hlim, if_neg hlim, saturatingInc]

/-- At the limit the failure also ends the send (R173). -/
theorem failWait_of_le (h : s.limData.toNat ≤ min (s.winFailcnt.toNat + 1) 255) :
    failWait s = { s with
      winCursor := s.winBase, winWs := 1, winFailcnt := BitVec.ofNat 8 (min (s.winFailcnt.toNat + 1) 255)
      winActive := false, winFailed := true } := by
  have hlim : s.limData.toNat ≤ (saturatingInc s.winFailcnt).toNat := by rwa [saturatingInc_toNat]
  rw [failWait, if_pos hlim, if_pos hlim, saturatingInc]

/-- A failure during a send: the send goes on unless the failures reach the limit (R173). -/
theorem failWait_of_send (hactive : s.winActive = true) (hfailed : s.winFailed = false) :
    failWait s = { s with
      winCursor := s.winBase, winWs := 1, winFailcnt := BitVec.ofNat 8 (min (s.winFailcnt.toNat + 1) 255)
      winActive := decide (min (s.winFailcnt.toNat + 1) 255 < s.limData.toNat)
      winFailed := decide (s.limData.toNat ≤ min (s.winFailcnt.toNat + 1) 255) } := by
  obtain h | h := Nat.lt_or_ge (min (s.winFailcnt.toNat + 1) 255) s.limData.toNat
  · rw [failWait_of_lt s h, decide_eq_true h, decide_eq_false (Nat.not_le.mpr h), ← hactive, ← hfailed]
  · rw [failWait_of_le s h, decide_eq_false (Nat.not_lt.mpr h), decide_eq_true h]

end

/-- Settles O50: past its check WIN_FAIL is the failure of R173, below the limit or at it. -/
theorem winFailCountsTheFailure : Obligations.WinFailCountsTheFailure := by
  refine ⟨decodeInvertsEncode .winFail rfl, fun s => ⟨fun hactive hlt => ?_, fun hactive hle => ?_,
    checkedSend_of_inactive s _⟩⟩
  · rw [← failWait_of_lt s hlt]
    exact checkedSend_of_active s _ hactive
  · rw [← failWait_of_le s hle]
    exact checkedSend_of_active s _ hactive

/-! ## WIN_ACK -/

section
variable (s : State)

/-- Past its two checks WIN_ACK judges the verified frame (R178). -/
theorem exec_winAck_of_send (hactive : s.winActive = true) (hlen : s.pktPlen.toNat ≤ s.params.P) :
    exec .winAck s = .next (judgeAck (verifyStep s)) :=
  (checkedSend_of_active s _ hactive).trans (checkedPayload_of_le s _ hlen)

theorem judgeAck_of_base (hvok : s.vok = true) (htype : s.pktType = typeDATAACK)
    (hseq : s.pktSeq = s.seqw s.winBase.toNat) : judgeAck s = advanceTo (s.winBase.toNat + 1) s :=
  if_pos ⟨hvok, htype, hseq⟩

theorem judgeAck_of_top (hvok : s.vok = true) (htype : s.pktType = typeDATAACK)
    (hbase : s.pktSeq ≠ s.seqw s.winBase.toNat) (hws : s.winWs = 2) (hseq : s.pktSeq = s.seqw s.winTop) :
    judgeAck s = advanceTo (s.winTop + 1) s :=
  (if_neg fun h => hbase h.2.2).trans (if_pos ⟨hvok, htype, hws, hseq⟩)

/-- A frame that is not an acknowledgement of the base, or at size 2 of the top, is a failure (R179, R180). -/
theorem judgeAck_of_other (h : ¬ ((s.vok = true ∧ s.pktType = typeDATAACK) ∧
      (s.pktSeq = s.seqw s.winBase.toNat ∨ s.winWs = 2 ∧ s.pktSeq = s.seqw s.winTop))) :
    judgeAck s = failWait s := by
  obtain ⟨hvok, htype, hseq, _⟩ | ⟨hvok, htype, _, hws, hseq, _⟩ | hfail := judgeAck_cases s
  · exact absurd ⟨⟨hvok, htype⟩, .inl hseq⟩ h
  · exact absurd ⟨⟨hvok, htype⟩, .inr ⟨hws, hseq⟩⟩ h
  · exact hfail

/-- A sequence number is chunk `i`'s when it is the anchor's plus `i`, modulo 256 (R170). -/
theorem eq_seqw_iff (q : Byte) (i : Nat) : q = s.seqw i ↔ q.toNat = (s.winAnchor.toNat + i) % 256 := by
  rw [← seqw_toNat, BitVec.toNat_inj]

end

/-- Settles O49: past its checks WIN_ACK judges the frame as R178 does, and the outcome is the advance or the failure
of R173 in the state the verification leaves. -/
theorem winAckJudgesTheFrame : Obligations.WinAckJudgesTheFrame := by
  refine ⟨decodeInvertsEncode .winAck rfl, fun s hw => ?_⟩
  intro c b top isAck ofBase ofTop advanced n failed
  have hadvanced : s.winActive = true → s.pktCsum = c → ∀ b', advanceTo b' (verifyStep s) = advanced b' := by
    intro hactive hsum b'
    rw [advanceTo_of_send (verifyStep s) b' hactive (hw.active_open hactive).1, verifyStep]
    exact congrArg (fun v => ({ advanced b' with vok := v } : State)) (decide_eq_true hsum)
  have htop : s.winActive = true → s.winTop = top := fun hactive =>
    winTop_of_pos s (Nat.ne_zero_of_lt (hw.active_count hactive).1)
  refine ⟨fun hactive hlen ⟨hsum, htype⟩ hbase => ?_, fun hactive hlen ⟨hsum, htype⟩ hbase ⟨hws, hseq⟩ => ?_,
    fun hactive hlen hother => ?_, checkedSend_of_inactive s _, fun hactive hlen => ?_⟩
  · rw [exec_winAck_of_send s hactive hlen, ← hadvanced hactive hsum]
    exact congrArg _ (judgeAck_of_base (verifyStep s) (decide_eq_true hsum) htype ((eq_seqw_iff s _ _).mpr hbase))
  · rw [exec_winAck_of_send s hactive hlen, ← hadvanced hactive hsum, ← htop hactive]
    rw [← htop hactive] at hseq
    exact congrArg _ (judgeAck_of_top (verifyStep s) (decide_eq_true hsum) htype
      (fun h => hbase ((eq_seqw_iff s _ _).mp h)) hws ((eq_seqw_iff s _ _).mpr hseq))
  · have hfails : judgeAck (verifyStep s) = failWait (verifyStep s) := by
      refine judgeAck_of_other (verifyStep s) fun ⟨⟨hvok, htype⟩, hseq⟩ => hother ⟨⟨of_decide_eq_true hvok, htype⟩, ?_⟩
      refine hseq.imp (eq_seqw_iff s _ _).mp fun ⟨hws, hseq⟩ => ⟨hws, ?_⟩
      exact htop hactive ▸ (eq_seqw_iff s _ _).mp hseq
    rw [exec_winAck_of_send s hactive hlen, hfails,
      failWait_of_send (verifyStep s) hactive (hw.active_open hactive).2]
    rfl
  · exact (checkedSend_of_active s _ hactive).trans (checkedPayload_of_lt s _ hlen)

/-- Neighbouring chunks have different sequence numbers (R175). -/
theorem seqw_succ_ne (s : State) (i : Nat) : s.seqw (i + 1) ≠ s.seqw i := by
  rw [ne_eq, eq_seqw_iff, seqw_toNat]
  omega

/-- Settles O51: the top's sequence number is not the base's, so the frame is judged as an acknowledgement of the
top. -/
theorem cumulativeAckJumpsPastBoth : Obligations.CumulativeAckJumpsPastBoth := by
  intro s hw hactive hws htop hlen hverifies htype hseq
  have hbase : s.pktSeq ≠ s.seqw s.winBase.toNat := by rw [hseq, htop]; exact seqw_succ_ne s _
  have hvok : (verifyStep s).vok = true := decide_eq_true ((verifies_iff s).mp hverifies).2
  have hjudge : judgeAck (verifyStep s) = advanceTo (s.winTop + 1) (verifyStep s) :=
    judgeAck_of_top (verifyStep s) hvok htype hbase hws hseq
  have hnew : (BitVec.ofNat 9 (s.winTop + 1)).toNat = s.winTop + 1 := by
    obtain ⟨_, hn⟩ := hw.active_count hactive
    obtain ⟨_, _, hle⟩ := hw.active_top hactive
    exact toNat_index _ (by omega)
  exact ⟨_, (exec_winAck_of_send s hactive hlen).trans (congrArg _ hjudge), hnew,
    hnew.trans (congrArg (· + 1) htop), rfl, rfl⟩

/-! ## What an instruction can do to a send -/

/-- The fields that say how far a send has come, and what bounds it (R173, R184). -/
def State.progressPart (s : State) : Bool × BitVec 9 × BitVec 9 × Byte × Byte :=
  (s.winActive, s.winN, s.winBase, s.winFailcnt, s.limData)

/-- Those fields and the sequence numbers of a send (R170, R172). -/
def State.sendPart (s : State) : (Bool × BitVec 9 × BitVec 9 × Byte × Byte) × Byte × Byte :=
  (s.progressPart, s.winAnchor, s.expSeq)

/-- Whether an instruction is an outcome report that the window unit takes (R178, R181). -/
def reportsOutcome (s : State) : Instr → Bool
  | .winFail => s.winActive
  | .winAck => s.winActive && !s.payloadTooLong
  | _ => false

/-- Outcome reports are taken during a send only. -/
theorem winActive_of_reportsOutcome {s : State} {c : Instr} (h : reportsOutcome s c = true) :
    s.winActive = true := by
  cases c with
  | winFail => exact h
  | winAck => exact (Bool.and_eq_true_iff.mp h).1
  | _ => cases h

/-- The commands outside the window unit that may write `EXP_SEQ` and leave a send active (R172). -/
def WritesExpSeq (c : Instr) : Prop := c = .seqReset ∨ c = .seqInc ∨ c = .rxCommit ∨ ∃ S, c = .lcSet S

/-- What an instruction can do to a send: an outcome report moves the base or fails the wait (R173), and no other
instruction does either. -/
inductive SendMove (s t : State) : Instr → Prop
  | keep {c : Instr} (hreport : reportsOutcome s c = false) (hkeep : t.sendPart = s.sendPart) : SendMove s t c
  | renumber {c : Instr} (hwrites : WritesExpSeq c) (hkeep : t.progressPart = s.progressPart) : SendMove s t c
  | start (hbase : t.winBase = 0) (hanchor : t.winAnchor = t.expSeq) : SendMove s t .winStart
  | clear (hactive : t.winActive = false) : SendMove s t .ctxReset
  | write {r : Reg} {a v : BitVec 16} (hr : regOfAddress a = some r) (hwin : r = .winN → s.winActive = false)
      (hwrite : t = hostWriteReg r v s) : SendMove s t (.regWr a v)
  | advance {c : Instr} {b : Nat} (hreport : reportsOutcome s c = true)
      (hb : b = s.winBase.toNat + 1 ∨ s.winWs = 2 ∧ b = s.winTop + 1)
      (hmove : t.sendPart = (advanceTo b s).sendPart) : SendMove s t c
  | fail {c : Instr} (hreport : reportsOutcome s c = true) (hmove : t.sendPart = (failWait s).sendPart) :
      SendMove s t c

/-- The frame's verification is not about the send; its judgement is one of the two outcomes of R173. -/
theorem judgeAck_send (s : State) (hreport : reportsOutcome s .winAck = true) :
    SendMove s (judgeAck (verifyStep s)) .winAck := by
  obtain ⟨_, _, _, he⟩ | ⟨_, _, _, hws, _, he⟩ | he := judgeAck_cases (verifyStep s)
  · rw [he]; exact .advance hreport (.inl rfl) rfl
  · rw [he]; exact .advance hreport (.inr ⟨hws, rfl⟩) rfl
  · rw [he]; exact .fail hreport rfl

/-- What each command can do to a send. -/
theorem exec_command_send (c : Instr) (s t : State) (hc : c.isCommand = true) (h : exec c s = .next t) :
    SendMove s t c := by
  cases c with
  | nop | pktClear | errClr | attClr | attInc | tmrArm | tmrDisarm => cases h; exact .keep rfl rfl
  | csumGen => obtain ⟨_, rfl⟩ | ⟨_, rfl⟩ := execCsumGen_next s t h <;> exact .keep rfl rfl
  | verify => obtain ⟨_, rfl⟩ | ⟨_, rfl⟩ := execVerify_next s t h <;> exact .keep rfl rfl
  | serialize => obtain ⟨_, rfl⟩ | ⟨_, rfl⟩ := execSerialize_next s t h <;> exact .keep rfl rfl
  | encode => obtain ⟨_, rfl⟩ | ⟨_, rfl⟩ := execEncode_next s t h <;> exact .keep rfl rfl
  | deserialize => obtain ⟨_, rfl⟩ | ⟨_, rfl⟩ | ⟨_, _, rfl⟩ := execDeserialize_next s t h <;> exact .keep rfl rfl
  | decode => obtain ⟨_, rfl⟩ | ⟨_, rfl⟩ | ⟨_, _, rfl⟩ := execDecode_next s t h <;> exact .keep rfl rfl
  | rxClassify => obtain ⟨_, rfl⟩ | ⟨_, rfl⟩ | ⟨_, _, rfl⟩ := execRxClassify_next s t h <;> exact .keep rfl rfl
  | seqReset => cases h; exact .renumber (.inl rfl) rfl
  | seqInc => cases h; exact .renumber (.inr (.inl rfl)) rfl
  | rxCommit =>
    obtain ⟨_, rfl⟩ | ⟨_, _, rfl⟩ | ⟨_, _, rfl⟩ := execRxCommit_next s t h <;>
      exact .renumber (.inr (.inr (.inl rfl))) rfl
  | lcSet S =>
    obtain ⟨_, rfl⟩ | ⟨_, _, ⟨_, rfl⟩ | ⟨_, rfl⟩⟩ := execLcSet_next S s t h <;>
      exact .renumber (.inr (.inr (.inr ⟨S, rfl⟩))) rfl
  | ctxReset => cases h; exact .clear rfl
  | winStart =>
    obtain ⟨_, rfl⟩ | ⟨_, rfl⟩ | ⟨_, _, _, rfl⟩ := execWinStart_next s t h
    · exact .keep rfl rfl
    · exact .keep rfl rfl
    · exact .start rfl rfl
  | winSent => obtain ⟨_, rfl⟩ | ⟨_, rfl⟩ | ⟨_, _, rfl⟩ := execWinSent_next s t h <;> exact .keep rfl rfl
  | winAck =>
    obtain ⟨hidle, rfl⟩ | ⟨hlong, rfl⟩ | ⟨hactive, hlen, rfl⟩ := execWinAck_next s t h
    · exact .keep (by simp [reportsOutcome, hidle]) rfl
    · exact .keep (by simp [reportsOutcome, hlong]) rfl
    · exact judgeAck_send s (by simp [reportsOutcome, hactive, hlen])
  | winFail =>
    obtain ⟨hidle, rfl⟩ | ⟨hactive, rfl⟩ := execWinFail_next s t h
    · exact .keep hidle rfl
    · exact .fail hactive rfl
  | regRd | regWr | pbRd | pbWr | fbRd | fbWr => cases hc

/-- A write of `CMD` with a legal word issues its command, and any other write is itself (R244). -/
theorem issuedBy_regWr_cases (a d : BitVec 16) :
    (∃ c, a = 0x0001 ∧ decodeCommand d = .ok c ∧ issuedBy (.regWr a d) = c)
    ∨ ((∀ c, regOfAddress a = some .cmd → decodeCommand d ≠ .ok c) ∧ issuedBy (.regWr a d) = .regWr a d) := by
  by_cases ha : a = 0x0001
  · subst ha
    cases hd : decodeCommand d with
    | ok c => exact .inl ⟨c, rfl, rfl, issuedBy_cmdWrite _ d c (by decide) hd⟩
    | error e => exact .inr ⟨fun _ _ => by simp, by simp only [issuedBy, if_true, hd]⟩
  · exact .inr ⟨fun c hcmd => absurd (address_of_cmd a hcmd) ha, by simp only [issuedBy, if_neg ha]⟩

/-- What a host transaction can do to a send: what the instruction it issues can. -/
theorem exec_transaction_send (i : Instr) (s t : State) (hi : i.isCommand = false) (h : exec i s = .next t) :
    SendMove s t (issuedBy i) := by
  cases i with
  | regRd a => obtain ⟨_, rfl⟩ | ⟨_, _, rfl⟩ := execRegRd_next a s t h <;> exact .keep rfl rfl
  | regWr a d =>
    obtain ⟨c, rfl, hd, hissued⟩ | ⟨hother, hissued⟩ := issuedBy_regWr_cases a d
    · rw [hissued]
      exact exec_command_send c s t (isCommand_of_decodeCommand d c hd) ((exec_cmdWrite d c s hd).symm.trans h)
    · rw [hissued]
      obtain rfl | ⟨_, _, rfl⟩ | ⟨c, ha, hd, _⟩ | ⟨r, hr, _, hwin, ht⟩ := exec_regWr_next a d s t h
      · exact .keep rfl rfl
      · exact .keep rfl rfl
      · exact absurd hd (hother c ha)
      · exact .write hr hwin ht
  | pbRd a => obtain ⟨_, rfl⟩ | ⟨_, rfl⟩ := execPbRd_next a s t h <;> exact .keep rfl rfl
  | pbWr a d => obtain ⟨_, rfl⟩ | ⟨_, rfl⟩ := execPbWr_next a d s t h <;> exact .keep rfl rfl
  | fbRd a => obtain ⟨_, rfl⟩ | ⟨_, rfl⟩ := execFbRd_next a s t h <;> exact .keep rfl rfl
  | fbWr a d => obtain ⟨_, rfl⟩ | ⟨_, rfl⟩ := execFbWr_next a d s t h <;> exact .keep rfl rfl
  | _ => cases hi

theorem timerTick_sendPart (s : State) : (timerTick s).sendPart = s.sendPart := by
  simp [State.sendPart, State.progressPart]

/-- What a step can do to a send: a reset ends it, an instruction moves it, and an input that issues none leaves it
alone. -/
theorem step_send (s t : State) (x : Input) (rest : List Input) (hs : s.inputs = x :: rest)
    (hstep : step s = .next t) :
    (x = .reset ∧ t.winActive = false)
    ∨ (x.issued = none ∧ t.sendPart = s.sendPart)
    ∨ ∃ c, x.issued = some c ∧ SendMove (beginTransaction rest s) t c := by
  obtain ⟨hnil, _⟩ | ⟨w, rest', hw, hr⟩ | ⟨rest', htick, rfl⟩ | ⟨rest', hrst, rfl⟩ := step_next s t hstep
  · cases hs.symm.trans hnil
  · cases hs.symm.trans hw
    obtain ⟨i, hd, hx⟩ | ⟨e, he, rfl⟩ := runTransaction_next w _ t hr
    · exact .inr (.inr ⟨_, issued_of_decodeTransaction w i hd,
        exec_transaction_send i _ t (not_isCommand_of_decodeTransaction w i hd) hx⟩)
    · exact .inr (.inl ⟨by simp only [Input.issued, he], rfl⟩)
  · cases hs.symm.trans htick
    exact .inr (.inl ⟨rfl, timerTick_sendPart _⟩)
  · cases hs.symm.trans hrst
    exact .inl ⟨rfl, rfl⟩

/-! ## The base and `EXP_SEQ` -/

theorem State.BaseAnchored.congr {s t : State} (h : s.BaseAnchored) (he : t.sendPart = s.sendPart) :
    t.BaseAnchored := by
  simp only [State.sendPart, State.progressPart, Prod.mk.injEq] at he
  obtain ⟨⟨hactive, _, hbase, _, _⟩, hanchor, hexp⟩ := he
  rw [State.BaseAnchored, State.seqw, hactive, hexp, hanchor, hbase]
  exact h

theorem baseAnchored_of_inactive {s : State} (h : s.winActive = false) : s.BaseAnchored :=
  fun hactive => absurd (h.symm.trans hactive) Bool.false_ne_true

/-- A 9-bit index has the sequence number of the index, for 9 bits are more than the 8 that count (R170). -/
theorem seqw_index (s : State) (b : Nat) : s.seqw (BitVec.ofNat 9 b).toNat = s.seqw b := by
  apply BitVec.eq_of_toNat_eq
  rw [seqw_toNat, seqw_toNat, BitVec.toNat_ofNat]
  omega

/-- Moving the base sets `EXP_SEQ` to its sequence number (R173). -/
theorem advanceTo_baseAnchored (b : Nat) (s : State) : (advanceTo b s).BaseAnchored :=
  fun _ => (seqw_index s b).symm

/-- An instruction keeps the base anchored unless it is one of those that write `EXP_SEQ` outside the unit. -/
theorem SendMove.baseAnchored {s t : State} {c : Instr} (h : SendMove s t c) (hs : s.BaseAnchored)
    (hc : ¬ WritesExpSeq c) : t.BaseAnchored := by
  cases h with
  | keep _ hkeep => exact hs.congr hkeep
  | renumber hwrites _ => exact absurd hwrites hc
  | start hbase hanchor => intro _; simp [State.seqw, hbase, hanchor]
  | clear hactive => exact baseAnchored_of_inactive hactive
  | write _ _ hwrite => simpa [hwrite, State.BaseAnchored, State.seqw] using hs
  | advance _ _ hmove => exact (advanceTo_baseAnchored _ s).congr hmove
  | fail hreport hmove =>
    have hfail : (failWait s).BaseAnchored := fun _ => hs (winActive_of_reportsOutcome hreport)
    exact hfail.congr hmove

/-- Settles O52: a reset ends the send, and an instruction that may not write `EXP_SEQ` keeps the base anchored. -/
theorem activeSendKeepsExpSeqAtTheBase : Obligations.ActiveSendKeepsExpSeqAtTheBase := by
  intro s t hs hstep hquiet
  cases hin : s.inputs with
  | nil =>
    cases (step_of_no_input s hin).symm.trans hstep
    exact hs
  | cons x rest =>
    obtain ⟨hseqReset, hseqInc, hcommit, hlcSet⟩ := hquiet x rest hin
    obtain ⟨_, hinactive⟩ | ⟨_, hkeep⟩ | ⟨c, hissued, hmove⟩ := step_send s t x rest hin hstep
    · exact baseAnchored_of_inactive hinactive
    · exact hs.congr hkeep
    · have hbegin : (beginTransaction rest s).BaseAnchored := hs.congr rfl
      refine hmove.baseAnchored hbegin ?_
      rintro (rfl | rfl | rfl | ⟨S, rfl⟩)
      · exact hseqReset hissued
      · exact hseqInc hissued
      · exact hcommit hissued
      · exact hlcSet S hissued


/-! ## Every step completes -/

/-- A check completes when both its branches do. -/
theorem completes_ite {p : Prop} [Decidable p] {o o' : Host.Outcome State Fault Refusal}
    (ho : ∃ t, o = .next t) (ho' : ∃ t, o' = .next t) : ∃ t, (if p then o else o') = .next t := by
  split
  · exact ho
  · exact ho'

/-- Past its checks a command answers a next state, and so does each check that fails (R262). -/
theorem exec_command_completes (c : Instr) (s : State) (hc : c.isCommand = true) : ∃ t, exec c s = .next t := by
  cases c with
  | nop | pktClear | errClr | ctxReset | seqReset | seqInc | attClr | attInc | tmrArm | tmrDisarm =>
    exact ⟨_, rfl⟩
  | csumGen | verify | serialize | encode | winFail => exact completes_ite ⟨_, rfl⟩ ⟨_, rfl⟩
  | deserialize | decode | winStart | winSent | winAck | rxClassify | rxCommit =>
    exact completes_ite ⟨_, rfl⟩ (completes_ite ⟨_, rfl⟩ ⟨_, rfl⟩)
  | lcSet S =>
    simp only [exec, execLcSet]
    split
    · exact ⟨_, rfl⟩
    · exact completes_ite ⟨_, rfl⟩ ⟨_, rfl⟩
  | regRd | regWr | pbRd | pbWr | fbRd | fbWr => cases hc

theorem executeWord_completes (w : Word) (s : State) : ∃ t, executeWord w s = .next t := by
  cases hd : decodeCommand w with
  | ok c =>
    rw [executeWord_ok w c s hd]
    exact exec_command_completes c s (isCommand_of_decodeCommand w c hd)
  | error e => exact ⟨_, executeWord_error w e s hd⟩

/-- An instruction completes; a write of `CMD` because the execution of its word does. -/
theorem exec_completes (i : Instr) (s : State) : ∃ t, exec i s = .next t := by
  cases hc : i.isCommand with
  | true => exact exec_command_completes i s hc
  | false =>
    cases i with
    | pbRd | pbWr | fbRd | fbWr => exact completes_ite ⟨_, rfl⟩ ⟨_, rfl⟩
    | regRd a =>
      simp only [exec, execRegRd]
      split
      · exact ⟨_, rfl⟩
      · exact ⟨_, rfl⟩
    | regWr a d =>
      simp only [exec, execRegWr]
      split
      · exact ⟨_, rfl⟩
      · exact completes_ite ⟨_, rfl⟩ (completes_ite ⟨_, rfl⟩
          (completes_ite (executeWord_completes d s) ⟨_, rfl⟩))
    | _ => cases hc

theorem runTransaction_completes (w : BitVec 35) (s : State) : ∃ t, runTransaction w s = .next t := by
  unfold runTransaction
  split
  · exact exec_completes _ s
  · exact ⟨_, rfl⟩

theorem step_completes (s : State) : ∃ t, step s = .next t := by
  unfold step
  split
  · exact ⟨_, rfl⟩
  · exact runTransaction_completes _ _
  · exact ⟨_, rfl⟩
  · exact ⟨_, rfl⟩

/-- Playing an input is the step that takes it. -/
theorem step_playInput (x : Input) (s : State) : step { s with inputs := [x] } = .next (playInput x s) := by
  obtain ⟨t, ht⟩ := step_completes { s with inputs := [x] }
  rw [playInput, ht]

/-! ## The bound on outcome reports -/

/-- What an active send keeps (R184): each chunk from the base on has `max(LIM_DATA, 1)` outcome reports, and `k` are
left when the failures counted at the base are taken off. -/
structure State.ReportsLeft (s : State) (k : Nat) : Prop where
  base_lt : s.winActive = true → s.winBase.toNat < s.winN.toNat
  count_le : s.winActive = true → s.winN.toNat ≤ 256
  fails_lt : s.winActive = true → s.winFailcnt.toNat < max s.limData.toNat 1
  left : s.winActive = true →
    (s.winN.toNat - s.winBase.toNat) * max s.limData.toNat 1 ≤ s.winFailcnt.toNat + k

theorem State.ReportsLeft.congr {s t : State} {k : Nat} (h : s.ReportsLeft k)
    (he : t.progressPart = s.progressPart) : t.ReportsLeft k := by
  simp only [State.progressPart, Prod.mk.injEq] at he
  obtain ⟨hactive, hn, hbase, hfails, hlim⟩ := he
  constructor
  · rw [hactive, hbase, hn]; exact h.base_lt
  · rw [hactive, hn]; exact h.count_le
  · rw [hactive, hfails, hlim]; exact h.fails_lt
  · rw [hactive, hn, hbase, hlim, hfails]; exact h.left

theorem reportsLeft_of_inactive {s : State} (h : s.winActive = false) (k : Nat) : s.ReportsLeft k := by
  constructor <;> simp [h]

/-- While the send is active at least one report is left: the base's own, which its failures have not used up. -/
theorem State.ReportsLeft.pos {s : State} {k : Nat} (h : s.ReportsLeft k) (hactive : s.winActive = true) :
    1 ≤ k := by
  have hbase := h.base_lt hactive
  have hfails := h.fails_lt hactive
  have hleft := h.left hactive
  have hone : 1 * max s.limData.toNat 1 ≤ (s.winN.toNat - s.winBase.toNat) * max s.limData.toNat 1 :=
    Nat.mul_le_mul_right _ (by omega)
  omega

/-- An acknowledgement takes off a chunk's reports, more than the failures it forgives (R184). -/
theorem advanceTo_reportsLeft {s : State} {k : Nat} (b : Nat) (h : s.ReportsLeft k) (hactive : s.winActive = true)
    (hb : s.winBase.toNat < b) (hb' : b ≤ s.winN.toNat) : (advanceTo b s).ReportsLeft (k - 1) := by
  have hn := h.count_le hactive
  have hfails := h.fails_lt hactive
  have hleft := h.left hactive
  have hbase : (advanceTo b s).winBase.toNat = b := toNat_index b (by omega)
  by_cases hend : b = s.winN.toNat
  · exact reportsLeft_of_inactive (if_pos hend) _
  · have hchunk : (s.winN.toNat - b + 1) * max s.limData.toNat 1
        ≤ (s.winN.toNat - s.winBase.toNat) * max s.limData.toNat 1 := Nat.mul_le_mul_right _ (by omega)
    rw [Nat.add_mul] at hchunk
    refine ⟨fun _ => ?_, fun _ => hn, fun _ => ?_, fun _ => ?_⟩
    · rw [hbase]; exact Nat.lt_of_le_of_ne hb' hend
    · exact Nat.lt_of_lt_of_le Nat.zero_lt_one (Nat.le_max_right _ 1)
    · rw [hbase]
      show (s.winN.toNat - b) * max s.limData.toNat 1 ≤ 0 + (k - 1)
      omega

/-- A failure below the limit takes off one report; at the limit the send ends (R184). -/
theorem failWait_reportsLeft {s : State} {k : Nat} (h : s.ReportsLeft k) (hactive : s.winActive = true) :
    (failWait s).ReportsLeft (k - 1) := by
  have hpos := h.pos hactive
  have hcount := saturatingInc_toNat s.winFailcnt
  by_cases hlim : s.limData.toNat ≤ (saturatingInc s.winFailcnt).toNat
  · exact reportsLeft_of_inactive (if_pos hlim) _
  · have hlt := s.limData.isLt
    have hleft := h.left hactive
    refine ⟨fun _ => h.base_lt hactive, fun _ => h.count_le hactive, fun _ => ?_, fun _ => ?_⟩
    · exact Nat.lt_of_lt_of_le (Nat.not_le.mp hlim) (Nat.le_max_left _ 1)
    · refine hleft.trans ?_
      show _ ≤ (saturatingInc s.winFailcnt).toNat + (k - 1)
      omega

/-- A register's index is the low 6 bits of its address, and the others are 0 (R61). -/
theorem address_of_index (r : Reg) (j : BitVec 6) (hindex : ∀ i, regOfIndex i = some r → i = j) (a : BitVec 16)
    (h : regOfAddress a = some r) : a = (0 : BitVec 10) ++ j := by
  unfold regOfAddress at h
  split at h
  · cases h
  next hhigh =>
    rw [← hindex _ h]
    exact (eq_append_of_high_zero (m := 10) (n := 6) a (not_not.mp hhigh)).symm

/-- `LIM_DATA` stands at its one address, 0x0015 (R24). -/
theorem address_of_limData (a : BitVec 16) (h : regOfAddress a = some .limData) : a = 0x0015 :=
  address_of_index .limData 0x15 (by decide) a h

/-- Of the fields the bound is about a register write reaches `WIN_N` and `LIM_DATA` alone. -/
theorem hostWriteReg_progressPart (r : Reg) (v : Word) (s : State) (hn : r ≠ .winN) (hlim : r ≠ .limData) :
    (hostWriteReg r v s).progressPart = s.progressPart := by
  cases r with
  | winN => exact absurd rfl hn
  | limData => exact absurd rfl hlim
  | _ => rfl

/-- A register write keeps the bound unless it is of `LIM_DATA`, for `WIN_N` is not written during a send (R246). -/
theorem hostWriteReg_reportsLeft {s : State} {k : Nat} (r : Reg) (v : Word) (h : s.ReportsLeft k)
    (hwin : r = .winN → s.winActive = false) (hlim : r ≠ .limData) : (hostWriteReg r v s).ReportsLeft k := by
  by_cases hn : r = .winN
  · exact reportsLeft_of_inactive ((hostWriteReg_winActive s r v).trans (hwin hn)) k
  · exact h.congr (hostWriteReg_progressPart r v s hn hlim)

/-- An instruction that neither starts a send nor writes `LIM_DATA` takes off a report if it is one. -/
theorem SendMove.reportsLeft {s t : State} {c : Instr} {k : Nat} (h : SendMove s t c) (hs : s.ReportsLeft k)
    (hstart : c ≠ .winStart) (hlim : ∀ v, c ≠ .regWr 0x15 v) :
    t.ReportsLeft (k - if reportsOutcome s c then 1 else 0) := by
  cases h with
  | keep hreport hkeep =>
    rw [hreport]
    exact hs.congr (congrArg Prod.fst hkeep)
  | renumber hwrites hkeep =>
    obtain rfl | rfl | rfl | ⟨S, rfl⟩ := hwrites <;> exact hs.congr hkeep
  | start => exact absurd rfl hstart
  | clear hactive => exact reportsLeft_of_inactive hactive _
  | @write r a v hr hwin hwrite =>
    subst hwrite
    refine hostWriteReg_reportsLeft r v hs hwin ?_
    rintro rfl
    exact hlim v (congrArg (Instr.regWr · v) (address_of_limData a hr))
  | @advance _ b hreport hb hmove =>
    have hactive := winActive_of_reportsOutcome hreport
    have hbase := hs.base_lt hactive
    have hnext : s.winBase.toNat < b ∧ b ≤ s.winN.toNat := by
      obtain rfl | ⟨hws, rfl⟩ := hb
      · omega
      · obtain ⟨hle, _, hle'⟩ := winTop_bounds s (.inr hws) hbase
        omega
    rw [if_pos hreport]
    exact (advanceTo_reportsLeft b hs hactive hnext.1 hnext.2).congr (congrArg Prod.fst hmove)
  | fail hreport hmove =>
    rw [if_pos hreport]
    exact (failWait_reportsLeft hs (winActive_of_reportsOutcome hreport)).congr (congrArg Prod.fst hmove)

theorem isOutcomeReport_of_issued (x : Input) (s : State) (c : Instr) (h : x.issued = some c) :
    isOutcomeReport x s = reportsOutcome s c := by
  rw [isOutcomeReport, h]
  cases c <;> simp [reportsOutcome]

theorem isOutcomeReport_of_not_issued (x : Input) (s : State) (h : x.issued = none) :
    isOutcomeReport x s = false := by
  rw [isOutcomeReport, h]
  exact Bool.and_false _

theorem winActive_of_isOutcomeReport {x : Input} {s : State} (h : isOutcomeReport x s = true) :
    s.winActive = true :=
  (Bool.and_eq_true_iff.mp h).1

/-- An input of R184 takes off a report if it is one. -/
theorem playInput_reportsLeft {s : State} {k : Nat} (x : Input) (hs : s.ReportsLeft k)
    (hstart : x.issued ≠ some .winStart) (hlim : ∀ v, x.issued ≠ some (.regWr 0x15 v)) :
    (playInput x s).ReportsLeft (k - if isOutcomeReport x s then 1 else 0) := by
  have hloaded : ({ s with inputs := [x] } : State).ReportsLeft k := hs.congr rfl
  obtain ⟨_, hinactive⟩ | ⟨hnone, hkeep⟩ | ⟨c, hissued, hmove⟩ := step_send _ _ x [] rfl (step_playInput x s)
  · exact reportsLeft_of_inactive hinactive _
  · rw [isOutcomeReport_of_not_issued x s hnone]
    exact hloaded.congr (congrArg Prod.fst hkeep)
  · rw [isOutcomeReport_of_issued x s c hissued]
    have hbegin : (beginTransaction [] { s with inputs := [x] }).ReportsLeft k := hs.congr rfl
    exact hmove.reportsLeft hbegin (fun h => hstart (hissued.trans (congrArg some h)))
      fun v h => hlim v (hissued.trans (congrArg some h))

/-- Along inputs of R184 there are at most as many reports as are left. -/
theorem outcomeReports_le (xs : List Input) : ∀ (s : State) (k : Nat), s.ReportsLeft k →
    (∀ x ∈ xs, x.issued ≠ some .winStart ∧ ∀ v, x.issued ≠ some (.regWr 0x15 v)) →
    outcomeReports xs s ≤ k := by
  induction xs with
  | nil => exact fun _ k _ _ => Nat.zero_le k
  | cons x xs ih =>
    intro s k hs hxs
    obtain ⟨hstart, hlim⟩ := hxs x List.mem_cons_self
    have hrest := ih _ _ (playInput_reportsLeft x hs hstart hlim) fun y hy => hxs y (List.mem_cons_of_mem x hy)
    have hle : (if isOutcomeReport x s then 1 else 0) ≤ k := by
      split
      next hreport => exact hs.pos (winActive_of_isOutcomeReport hreport)
      next => exact Nat.zero_le k
    rw [outcomeReports]
    omega

/-- Settles O53: a send begins with the reports of all its chunks left. -/
theorem sendEndsWithinTheOutcomeBound : Obligations.SendEndsWithinTheOutcomeBound := by
  intro s t xs hlc hn hn' hstart hxs
  obtain ⟨hbegins, _⟩ := winStartBeginsASend.2 s
  cases (hbegins hlc hn hn').symm.trans hstart
  refine outcomeReports_le xs _ _ ⟨fun _ => hn, fun _ => hn', fun _ => ?_, fun _ => ?_⟩ fun x hx => ?_
  · exact Nat.lt_of_lt_of_le Nat.zero_lt_one (Nat.le_max_right _ 1)
  · exact Nat.le_add_left _ 0
  · obtain ⟨_, hnotStart, _, hlim⟩ := hxs x hx
    exact ⟨hnotStart, hlim⟩

end Sys2Proof.Machine
end

section
/-! PROOFS. The statements of 43_receiver.md. First the verdict of each kind of packet and the two commands; then,
said once, what an instruction and a step can do to the receiver, from which the order of the committed sequence
numbers follows. -/

namespace Sys2Proof.Machine

/-! ## The verdict -/

/-- The distance R200 compares is the difference modulo 256. -/
theorem seq_distance (q e : Byte) : (q - e).toNat = (q.toNat + 256 - e.toNat) % 256 := by
  have := e.isLt
  rw [BitVec.toNat_sub]
  omega

section
variable {t q e : Byte}

theorem verdictOf_corrupt : verdictOf false t q e = ⟨.nackCsum, typeDATAACK, e - 1⟩ := if_pos nofun

theorem verdictOf_data (ht : t = typeDATA) : verdictOf true t q e =
    if (q.toNat + 256 - e.toNat) % 256 = 0 then ⟨.accept, typeDATAACK, e⟩
    else if 128 ≤ (q.toNat + 256 - e.toNat) % 256 then ⟨.stale, typeDATAACK, q⟩
    else ⟨.nackGap, typeDATAACK, e - 1⟩ := by
  rw [verdictOf, if_neg (not_not.mpr rfl), if_pos ht, seq_distance]

theorem verdictOf_expected (ht : t = typeDATA) (hd : (q.toNat + 256 - e.toNat) % 256 = 0) :
    verdictOf true t q e = ⟨.accept, typeDATAACK, e⟩ :=
  (verdictOf_data ht).trans (if_pos hd)

theorem verdictOf_stale (ht : t = typeDATA) (hd : 128 ≤ (q.toNat + 256 - e.toNat) % 256) :
    verdictOf true t q e = ⟨.stale, typeDATAACK, q⟩ := by
  rw [verdictOf_data ht, if_neg (by omega), if_pos hd]

theorem verdictOf_gap (ht : t = typeDATA) (hd : 1 ≤ (q.toNat + 256 - e.toNat) % 256)
    (hd' : (q.toNat + 256 - e.toNat) % 256 ≤ 127) : verdictOf true t q e = ⟨.nackGap, typeDATAACK, e - 1⟩ := by
  rw [verdictOf_data ht, if_neg (by omega), if_neg (by omega)]

theorem verdictOf_syn (ht : t = typeSYN) : verdictOf true t q e = ⟨.syn, typeSYNACK, 0x00⟩ := by
  rw [ht]
  rfl

theorem verdictOf_fin (ht : t = typeFIN) : verdictOf true t q e = ⟨.fin, noResponse, 0x00⟩ := by
  rw [ht]
  rfl

theorem verdictOf_other (hsyn : t ≠ typeSYN) (hdata : t ≠ typeDATA) (hfin : t ≠ typeFIN) :
    verdictOf true t q e = ⟨.proto, noResponse, 0x00⟩ := by
  rw [verdictOf, if_neg (not_not.mpr rfl), if_neg hdata, if_neg hsyn, if_neg hfin]

/-- An ACCEPT answers with the expected sequence number (R201). -/
theorem ackSeq_of_accept {ok : Bool} (h : (verdictOf ok t q e).action = .accept) :
    (verdictOf ok t q e).ackSeq = e := by
  unfold verdictOf at h ⊢
  split_ifs at h ⊢
  rfl

end

/-! ## RX_CLASSIFY and RX_COMMIT -/

section
variable (s : State)

/-- In ESTABLISHED only the packet's length is left to check. -/
theorem exec_rxClassify_of_established (hlc : s.lcState = .established) :
    exec .rxClassify s = if s.payloadTooLong then refuseWith .oversize s else .next (classify s) :=
  if_neg (not_not.mpr hlc)

/-- Past both checks RX_CLASSIFY records the verdict on the verified packet. -/
theorem exec_rxClassify_of_verdict (hlc : s.lcState = .established) (hlen : s.pktPlen.toNat ≤ s.params.P) {ok : Bool}
    {v : Verdict} (hok : decide (s.pktCsum = s.packetChecksum) = ok)
    (hv : verdictOf ok s.pktType s.pktSeq s.expSeq = v) :
    exec .rxClassify s = .next (recordVerdict v (verifyStep s)) := by
  have hverdict : (verifyStep s).verdict = v := by rw [State.verdict, verifyStep_vok, hok]; exact hv
  rw [exec_rxClassify_of_established s hlc, checkedPayload_of_le s _ hlen, classify, hverdict]

/-- With a verdict pending the only check left is that a FIN finds the connection open. -/
theorem exec_rxCommit_of_pending (hpend : s.rxPend = true) (hfin : s.rxAction = .fin → s.lcState = .established) :
    exec .rxCommit s = .next { s with
      expSeq := if s.rxAction = .accept then s.rxAckSeq + 1 else s.expSeq
      lcState := if s.rxAction = .fin then .finRcvd else s.lcState
      rxPend := false } :=
  (if_neg (not_not.mpr hpend)).trans (if_neg fun ⟨haction, hlc⟩ => hlc (hfin haction))

end

/-- Settles O54: past the two checks one clause for each verdict, a matching checksum being one that verifies. -/
theorem rxClassifyGivesTheVerdict : Obligations.RxClassifyGivesTheVerdict := by
  refine ⟨decodeInvertsEncode .rxClassify rfl, fun s => ⟨fun hlc hlen => ?_, fun hlc => if_pos hlc,
    fun hlc hlong => (exec_rxClassify_of_established s hlc).trans (checkedPayload_of_lt s _ hlong)⟩⟩
  have hcorrupt (h : s.pktCsum ≠ s.packetChecksum) := exec_rxClassify_of_verdict s hlc hlen (decide_eq_false h)
    verdictOf_corrupt
  have hintact {v : Verdict} (h : s.pktCsum = s.packetChecksum) :=
    exec_rxClassify_of_verdict (v := v) s hlc hlen (decide_eq_true h)
  exact ⟨hcorrupt, fun h ht hd => hintact h (verdictOf_expected ht hd),
    fun h ht hd => hintact h (verdictOf_stale ht hd), fun h ht hd hd' => hintact h (verdictOf_gap ht hd hd'),
    fun h ht => hintact h (verdictOf_syn ht), fun h ht => hintact h (verdictOf_fin ht),
    fun h hsyn hdata hfin => hintact h (verdictOf_other hsyn hdata hfin)⟩

/-- Settles O55: past the checks the verdict decides which of the two fields the commit moves. -/
theorem rxCommitAppliesTheVerdict : Obligations.RxCommitAppliesTheVerdict := by
  refine ⟨decodeInvertsEncode .rxCommit rfl, fun s => ⟨fun hpend haccept => ?_, fun hpend hfin hlc => ?_,
    fun hpend haccept hfin => ?_, fun hpend => ?_, fun hpend hfin hlc => ?_⟩⟩
  · rw [exec_rxCommit_of_pending s hpend (by simp [haccept]), if_pos haccept, if_neg (by simp [haccept]),
      seq_succ_eq]
  · rw [exec_rxCommit_of_pending s hpend fun _ => hlc, if_pos hfin, if_neg (by simp [hfin])]
  · rw [exec_rxCommit_of_pending s hpend fun h => absurd h hfin, if_neg haccept, if_neg hfin]
  · exact if_pos (Bool.eq_false_iff.mp hpend)
  · exact (if_neg (not_not.mpr hpend)).trans (if_pos ⟨hfin, hlc⟩)

/-! ## What an instruction can do to the receiver -/

/-- The fields the order of the commits is about (R206). -/
def State.receiverPart (s : State) : Bool × RxAction × Byte × Byte := (s.rxPend, s.rxAction, s.rxAckSeq, s.expSeq)

/-- The sequence number an instruction commits, if it is an RX_COMMIT of a pending ACCEPT (R205). -/
def commitsSeq (s : State) : Instr → Option Byte
  | .rxCommit => if s.rxPend && decide (s.rxAction = .accept) then some s.rxAckSeq else none
  | _ => none

/-- The instructions outside the receiver that may write `EXP_SEQ` (R206). -/
def WritesExpSeqOutsideReceiver (c : Instr) : Prop :=
  c = .ctxReset ∨ c = .seqReset ∨ c = .seqInc ∨ c = .winAck ∨ ∃ S, c = .lcSet S

/-- What an instruction that does not write `EXP_SEQ` from outside can do to the receiver: record a verdict, commit
the pending one, or leave it alone. -/
inductive ReceiverMove (s t : State) : Instr → Prop
  | keep {c : Instr} (hnone : commitsSeq s c = none) (hkeep : t.receiverPart = s.receiverPart) : ReceiverMove s t c
  | classify (hmove : t.receiverPart = (classify s).receiverPart) : ReceiverMove s t .rxClassify
  | commit (hpend : s.rxPend = true) (hdone : t.rxPend = false)
      (hexp : t.expSeq = if s.rxAction = .accept then s.rxAckSeq + 1 else s.expSeq) : ReceiverMove s t .rxCommit

theorem commitsSeq_of_not_pending {s : State} (h : s.rxPend = false) (c : Instr) : commitsSeq s c = none := by
  cases c <;> simp [commitsSeq, h]

/-- What each command can do to the receiver. -/
theorem exec_command_receiver (c : Instr) (s t : State) (hc : c.isCommand = true) (h : exec c s = .next t)
    (hother : ¬ WritesExpSeqOutsideReceiver c) : ReceiverMove s t c := by
  cases c with
  | ctxReset => exact absurd (.inl rfl) hother
  | seqReset => exact absurd (.inr (.inl rfl)) hother
  | seqInc => exact absurd (.inr (.inr (.inl rfl))) hother
  | winAck => exact absurd (.inr (.inr (.inr (.inl rfl)))) hother
  | lcSet S => exact absurd (.inr (.inr (.inr (.inr ⟨S, rfl⟩)))) hother
  | nop | pktClear | errClr | attClr | attInc | tmrArm | tmrDisarm => cases h; exact .keep rfl rfl
  | csumGen => obtain ⟨_, rfl⟩ | ⟨_, rfl⟩ := execCsumGen_next s t h <;> exact .keep rfl rfl
  | verify => obtain ⟨_, rfl⟩ | ⟨_, rfl⟩ := execVerify_next s t h <;> exact .keep rfl rfl
  | serialize => obtain ⟨_, rfl⟩ | ⟨_, rfl⟩ := execSerialize_next s t h <;> exact .keep rfl rfl
  | encode => obtain ⟨_, rfl⟩ | ⟨_, rfl⟩ := execEncode_next s t h <;> exact .keep rfl rfl
  | deserialize => obtain ⟨_, rfl⟩ | ⟨_, rfl⟩ | ⟨_, _, rfl⟩ := execDeserialize_next s t h <;> exact .keep rfl rfl
  | decode => obtain ⟨_, rfl⟩ | ⟨_, rfl⟩ | ⟨_, _, rfl⟩ := execDecode_next s t h <;> exact .keep rfl rfl
  | winStart => obtain ⟨_, rfl⟩ | ⟨_, rfl⟩ | ⟨_, _, _, rfl⟩ := execWinStart_next s t h <;> exact .keep rfl rfl
  | winSent => obtain ⟨_, rfl⟩ | ⟨_, rfl⟩ | ⟨_, _, rfl⟩ := execWinSent_next s t h <;> exact .keep rfl rfl
  | winFail => obtain ⟨_, rfl⟩ | ⟨_, rfl⟩ := execWinFail_next s t h <;> exact .keep rfl rfl
  | rxClassify =>
    obtain ⟨_, rfl⟩ | ⟨_, rfl⟩ | ⟨_, _, rfl⟩ := execRxClassify_next s t h
    · exact .keep rfl rfl
    · exact .keep rfl rfl
    · exact .classify rfl
  | rxCommit =>
    obtain ⟨hidle, rfl⟩ | ⟨hfin, _, rfl⟩ | ⟨hpend, _, rfl⟩ := execRxCommit_next s t h
    · exact .keep (commitsSeq_of_not_pending hidle _) rfl
    · exact .keep (by simp [commitsSeq, hfin]) rfl
    · exact .commit hpend rfl rfl
  | regRd | regWr | pbRd | pbWr | fbRd | fbWr => cases hc

/-- No register of the receiver is written by the host (R24). -/
theorem hostWriteReg_receiverPart (r : Reg) (v : Word) (s : State) :
    (hostWriteReg r v s).receiverPart = s.receiverPart := by
  simp [State.receiverPart]

/-- What a host transaction can do to the receiver: what the instruction it issues can. -/
theorem exec_transaction_receiver (i : Instr) (s t : State) (hi : i.isCommand = false) (h : exec i s = .next t)
    (hother : ¬ WritesExpSeqOutsideReceiver (issuedBy i)) : ReceiverMove s t (issuedBy i) := by
  cases i with
  | regRd a => obtain ⟨_, rfl⟩ | ⟨_, _, rfl⟩ := execRegRd_next a s t h <;> exact .keep rfl rfl
  | regWr a d =>
    obtain ⟨c, rfl, hd, hissued⟩ | ⟨hnocmd, hissued⟩ := issuedBy_regWr_cases a d
    · rw [hissued] at hother ⊢
      exact exec_command_receiver c s t (isCommand_of_decodeCommand d c hd)
        ((exec_cmdWrite d c s hd).symm.trans h) hother
    · rw [hissued]
      obtain rfl | ⟨_, _, rfl⟩ | ⟨c, ha, hd, _⟩ | ⟨r, _, _, _, rfl⟩ := exec_regWr_next a d s t h
      · exact .keep rfl rfl
      · exact .keep rfl rfl
      · exact absurd hd (hnocmd c ha)
      · exact .keep rfl (hostWriteReg_receiverPart r d s)
  | pbRd a => obtain ⟨_, rfl⟩ | ⟨_, rfl⟩ := execPbRd_next a s t h <;> exact .keep rfl rfl
  | pbWr a d => obtain ⟨_, rfl⟩ | ⟨_, rfl⟩ := execPbWr_next a d s t h <;> exact .keep rfl rfl
  | fbRd a => obtain ⟨_, rfl⟩ | ⟨_, rfl⟩ := execFbRd_next a s t h <;> exact .keep rfl rfl
  | fbWr a d => obtain ⟨_, rfl⟩ | ⟨_, rfl⟩ := execFbWr_next a d s t h <;> exact .keep rfl rfl
  | _ => cases hi

theorem timerTick_receiverPart (s : State) : (timerTick s).receiverPart = s.receiverPart := by
  simp [State.receiverPart]

/-- What a step on anything but a reset can do to the receiver: what the instruction its input issues can, and
nothing if it issues none. -/
theorem step_receiver (s t : State) (x : Input) (rest : List Input) (hs : s.inputs = x :: rest)
    (hstep : step s = .next t) (hreset : x ≠ .reset)
    (hother : ∀ c, x.issued = some c → ¬ WritesExpSeqOutsideReceiver c) :
    (x.issued = none ∧ t.receiverPart = s.receiverPart)
    ∨ ∃ c, x.issued = some c ∧ ReceiverMove (beginTransaction rest s) t c := by
  obtain ⟨hnil, _⟩ | ⟨w, rest', hw, hr⟩ | ⟨rest', htick, rfl⟩ | ⟨rest', hrst, _⟩ := step_next s t hstep
  · cases hs.symm.trans hnil
  · cases hs.symm.trans hw
    obtain ⟨i, hd, hx⟩ | ⟨e, he, rfl⟩ := runTransaction_next w _ t hr
    · have hissued := issued_of_decodeTransaction w i hd
      exact .inr ⟨_, hissued, exec_transaction_receiver i _ t (not_isCommand_of_decodeTransaction w i hd) hx
        (hother _ hissued)⟩
    · exact .inl ⟨by simp only [Input.issued, he], rfl⟩
  · cases hs.symm.trans htick
    exact .inl ⟨rfl, timerTick_receiverPart _⟩
  · cases hs.symm.trans hrst
    exact absurd rfl hreset

/-! ## The order of the commits -/

/-- A pending ACCEPT is of the packet with the expected sequence number: `EXP_SEQ` has not moved since it was
classified (R206). -/
def State.AcceptsExpSeq (s : State) : Prop := s.rxPend = true → s.rxAction = .accept → s.rxAckSeq = s.expSeq

theorem acceptsExpSeq_of_not_pending {s : State} (h : s.rxPend = false) : s.AcceptsExpSeq :=
  fun hpend => absurd (h.symm.trans hpend) Bool.false_ne_true

theorem State.AcceptsExpSeq.congr {s t : State} (h : s.AcceptsExpSeq) (he : t.receiverPart = s.receiverPart) :
    t.AcceptsExpSeq := by
  simp only [State.receiverPart, Prod.mk.injEq] at he
  obtain ⟨hpend, haction, hack, hexp⟩ := he
  rw [State.AcceptsExpSeq, hpend, haction, hack, hexp]
  exact h

theorem expSeq_congr {s t : State} (he : t.receiverPart = s.receiverPart) : t.expSeq = s.expSeq :=
  congrArg (fun part => part.2.2.2) he

theorem classify_acceptsExpSeq (s : State) : (classify s).AcceptsExpSeq :=
  fun _ haccept => ackSeq_of_accept haccept

theorem ReceiverMove.acceptsExpSeq {s t : State} {c : Instr} (h : ReceiverMove s t c) (hs : s.AcceptsExpSeq) :
    t.AcceptsExpSeq := by
  cases h with
  | keep _ hkeep => exact hs.congr hkeep
  | classify hmove => exact (classify_acceptsExpSeq s).congr hmove
  | commit _ hdone _ => exact acceptsExpSeq_of_not_pending hdone

/-- A committed ACCEPT carries the expected sequence number and moves it on by one; nothing else moves it. -/
theorem ReceiverMove.commitsSeq_cases {s t : State} {c : Instr} (h : ReceiverMove s t c) (hs : s.AcceptsExpSeq) :
    (commitsSeq s c = none ∧ t.expSeq = s.expSeq)
    ∨ (commitsSeq s c = some s.expSeq ∧ t.expSeq = s.expSeq + 1) := by
  cases h with
  | keep hnone hkeep => exact .inl ⟨hnone, expSeq_congr hkeep⟩
  | classify hmove => exact .inl ⟨rfl, (expSeq_congr hmove :)⟩
  | commit hpend _ hexp =>
    by_cases haccept : s.rxAction = .accept
    · have hack := hs hpend haccept
      exact .inr ⟨by simp [commitsSeq, hpend, haccept, hack], by rw [hexp, if_pos haccept, hack]⟩
    · exact .inl ⟨by simp [commitsSeq, haccept], by rw [hexp, if_neg haccept]⟩

theorem committedSeq_of_issued (x : Input) (s : State) (c : Instr) (h : x.issued = some c) :
    committedSeq x s = commitsSeq s c := by
  rw [committedSeq, h]
  cases c <;> rfl

theorem committedSeq_of_not_issued (x : Input) (s : State) (h : x.issued = none) : committedSeq x s = none := by
  rw [committedSeq, h]

/-- The inputs of R206: those that write `EXP_SEQ` by RX_COMMIT only. -/
def Input.leavesExpSeqToCommits (x : Input) : Prop :=
  x ≠ .reset ∧ ∀ c, x.issued = some c → ¬ WritesExpSeqOutsideReceiver c

/-- An input of R206 keeps a pending ACCEPT at the expected sequence number, and commits that number or none. -/
theorem playInput_receiver (x : Input) (s : State) (hx : x.leavesExpSeqToCommits) (hs : s.AcceptsExpSeq) :
    (playInput x s).AcceptsExpSeq
    ∧ ((committedSeq x s = none ∧ (playInput x s).expSeq = s.expSeq)
      ∨ (committedSeq x s = some s.expSeq ∧ (playInput x s).expSeq = s.expSeq + 1)) := by
  obtain ⟨hreset, hother⟩ := hx
  obtain ⟨hnone, hkeep⟩ | ⟨c, hissued, hmove⟩ := step_receiver _ _ x [] rfl (step_playInput x s) hreset hother
  · exact ⟨hs.congr hkeep, .inl ⟨committedSeq_of_not_issued x s hnone, expSeq_congr hkeep⟩⟩
  · have hbegin : (beginTransaction [] { s with inputs := [x] }).AcceptsExpSeq := hs
    rw [committedSeq_of_issued x s c hissued]
    exact ⟨hmove.acceptsExpSeq hbegin, hmove.commitsSeq_cases hbegin⟩

/-- The `n` sequence numbers from `e` on (R206). -/
def seqsFrom (e : Byte) (n : Nat) : List Byte := (List.range n).map fun k => e + BitVec.ofNat 8 k

theorem seqsFrom_succ (e : Byte) (n : Nat) : seqsFrom e (n + 1) = e :: seqsFrom (e + 1) n := by
  have hshift (k : Nat) : e + BitVec.ofNat 8 (k + 1) = e + 1 + BitVec.ofNat 8 k := by
    rw [Nat.add_comm, BitVec.ofNat_add, BitVec.add_assoc]
    rfl
  rw [seqsFrom, List.range_succ_eq_map, List.map_cons, List.map_map]
  exact congrArg₂ List.cons (BitVec.add_zero e) (List.map_congr_left fun k _ => hshift k)

/-- Along inputs of R206 the commits carry the sequence numbers from `EXP_SEQ` on. -/
theorem committedSeqs_eq_seqsFrom (xs : List Input) : ∀ s : State, s.AcceptsExpSeq →
    (∀ x ∈ xs, x.leavesExpSeqToCommits) →
    committedSeqs xs s = seqsFrom s.expSeq (committedSeqs xs s).length := by
  induction xs with
  | nil => exact fun _ _ _ => rfl
  | cons x xs ih =>
    intro s hs hxs
    obtain ⟨hnext, hcommit⟩ := playInput_receiver x s (hxs x List.mem_cons_self) hs
    have hrest := ih _ hnext fun y hy => hxs y (List.mem_cons_of_mem x hy)
    obtain ⟨hnone, hexp⟩ | ⟨hsome, hexp⟩ := hcommit
    · rw [hexp] at hrest
      rwa [committedSeqs, hnone]
    · rw [hexp] at hrest
      rw [committedSeqs, hsome, Option.toList_some, List.singleton_append, List.length_cons, seqsFrom_succ, ← hrest]

/-- Settles O56: with no verdict pending there is no ACCEPT that `EXP_SEQ` could have left behind. -/
theorem committedAcceptsAreInOrder : Obligations.CommittedAcceptsAreInOrder := by
  intro s xs hpend hxs
  refine committedSeqs_eq_seqsFrom xs s (acceptsExpSeq_of_not_pending hpend) fun x hx => ?_
  obtain ⟨hreset, hctxReset, hseqReset, hseqInc, hwinAck, hlcSet⟩ := hxs x hx
  refine ⟨hreset, fun c hissued => ?_⟩
  rintro (rfl | rfl | rfl | rfl | ⟨S, rfl⟩)
  · exact hctxReset hissued
  · exact hseqReset hissued
  · exact hseqInc hissued
  · exact hwinAck hissued
  · exact hlcSet S hissued

end Sys2Proof.Machine
end

section
/-! PROOFS. The statements of 44_timer.md. First the two commands and the tick; then, said once, that beside
these only a reset and CTX_RESET write the timer, so that a run without them counts its ticks and nothing else. -/

namespace Sys2Proof.Machine

/-! ## The two commands -/

/-- The meaning of TMR_ARM, of any reload value (R220). -/
theorem exec_tmrArm (s : State) : exec .tmrArm s = .next { s with
    tmrCnt := s.tmrReload, tmrRun := decide (s.tmrReload ≠ 0), tmrExp := decide (s.tmrReload = 0) } := rfl

/-- Settles O57: whether TMR_ARM runs the timer or expires it is whether the reload value is 0. -/
theorem timerCommands : Obligations.TimerCommands := by
  refine ⟨decodeInvertsEncode .tmrArm rfl, decodeInvertsEncode .tmrDisarm rfl, fun s => ⟨fun hzero => ?_,
    fun hpos => ?_, rfl⟩⟩
  · rw [exec_tmrArm, decide_eq_false (not_not.mpr hzero), decide_eq_true hzero, hzero]
  · rw [exec_tmrArm, decide_eq_true hpos, decide_eq_false hpos]

/-! ## The tick -/

section
variable {s : State}

theorem timerTick_of_stopped (hrun : s.tmrRun = false) : timerTick s = s := by
  rw [timerTick, hrun, if_neg Bool.false_ne_true]

theorem timerTick_of_running (hrun : s.tmrRun = true) (hcnt : 1 < s.tmrCnt.toNat) :
    timerTick s = { s with tmrCnt := BitVec.ofNat 16 (s.tmrCnt.toNat - 1) } := by
  have hpred : s.tmrCnt - 1#16 = BitVec.ofNat 16 (s.tmrCnt.toNat - 1) := by bv_omega
  have hpos : BitVec.ofNat 16 (s.tmrCnt.toNat - 1) ≠ 0#16 := by bv_omega
  simp [timerTick, hrun, hpred, hpos]

theorem timerTick_of_last (hrun : s.tmrRun = true) (hcnt : s.tmrCnt = 1) :
    timerTick s = { s with tmrCnt := 0, tmrRun := false, tmrExp := true } := by
  simp [timerTick, hrun, hcnt]

end

/-- A tick's step takes it off the queue and counts (R224). -/
theorem step_of_tick (s : State) (rest : List Input) (hs : s.inputs = .tick :: rest) :
    step s = .next (timerTick (takeInput rest s)) := by
  rw [step, hs]

/-- Settles O58: past the input taken, the three clauses are the tick's three cases. -/
theorem tickCountsDown : Obligations.TickCountsDown := by
  intro s rest hs
  rw [step_of_tick s rest hs]
  exact ⟨fun hrun => congrArg _ (timerTick_of_stopped (s := takeInput rest s) hrun),
    fun hrun hcnt => congrArg _ (timerTick_of_running (s := takeInput rest s) hrun hcnt),
    fun hrun hcnt => congrArg _ (timerTick_of_last (s := takeInput rest s) hrun hcnt)⟩

/-! ## The ticks an armed timer has left -/

/-- An armed timer with `n` ticks left: it runs while there are any, and has expired when there are none (R226). -/
structure State.TicksLeft (s : State) (n : Nat) : Prop where
  run_eq : s.tmrRun = decide (n ≠ 0)
  exp_eq : s.tmrExp = decide (n = 0)
  cnt_eq : s.tmrCnt.toNat = n

theorem State.TicksLeft.congr {s t : State} {n : Nat} (h : s.TicksLeft n) (he : t.timerPart = s.timerPart) :
    t.TicksLeft n := by
  simp only [State.timerPart, Prod.mk.injEq] at he
  obtain ⟨hrun, hexp, hcnt⟩ := he
  exact ⟨hrun ▸ h.run_eq, hexp ▸ h.exp_eq, hcnt ▸ h.cnt_eq⟩

/-- TMR_ARM leaves as many ticks as the reload value says; with none it has expired already (R221). -/
theorem exec_tmrArm_ticksLeft (s t : State) (h : exec .tmrArm s = .next t) : t.TicksLeft s.tmrReload.toNat := by
  have hzero : s.tmrReload = 0 ↔ s.tmrReload.toNat = 0 := BitVec.toNat_inj.symm
  cases h
  exact ⟨decide_eq_decide.mpr (not_congr hzero), decide_eq_decide.mpr hzero, rfl⟩

/-- A tick takes one of the ticks left; with none left it does nothing, so an expired timer stays expired (R226). -/
theorem State.TicksLeft.timerTick {s : State} {n : Nat} (h : s.TicksLeft n) :
    (timerTick s).TicksLeft (n - 1) := by
  obtain ⟨hrun, hexp, hcnt⟩ := h
  match n with
  | 0 => rw [timerTick_of_stopped hrun]; exact ⟨hrun, hexp, hcnt⟩
  | 1 => rw [timerTick_of_last hrun (BitVec.eq_of_toNat_eq hcnt)]; exact ⟨rfl, rfl, rfl⟩
  | n + 2 =>
    rw [timerTick_of_running hrun (by omega)]
    refine ⟨hrun, hexp, ?_⟩
    have := s.tmrCnt.isLt
    simp only [BitVec.toNat_ofNat]
    omega

/-! ## What else reaches the timer -/

/-- The commands that write the timer (R144, R220, R222). -/
def SetsTimer (c : Instr) : Prop := c = .tmrArm ∨ c = .tmrDisarm ∨ c = .ctxReset

/-- The timer and what the agents do from here on: what a run of ticks is about. -/
def State.timedPart (s : State) : (Bool × Bool × Word) × List Input := (s.timerPart, s.inputs)

theorem timerPart_congr {s t : State} (h : t.timedPart = s.timedPart) : t.timerPart = s.timerPart :=
  congrArg Prod.fst h

theorem inputs_congr {s t : State} (h : t.timedPart = s.timedPart) : t.inputs = s.inputs :=
  congrArg Prod.snd h

theorem judgeAck_timedPart (s : State) : (judgeAck s).timedPart = s.timedPart := by
  obtain ⟨_, _, _, h⟩ | ⟨_, _, _, _, _, h⟩ | h := judgeAck_cases s <;> rw [h] <;> rfl

theorem hostWriteReg_timedPart (r : Reg) (v : Word) (s : State) : (hostWriteReg r v s).timedPart = s.timedPart := by
  simp [State.timedPart, State.timerPart]

/-- No other command writes the timer, and none the inputs to come. -/
theorem exec_command_timedPart (c : Instr) (s t : State) (hc : c.isCommand = true) (h : exec c s = .next t)
    (hset : ¬ SetsTimer c) : t.timedPart = s.timedPart := by
  cases c with
  | tmrArm => exact absurd (.inl rfl) hset
  | tmrDisarm => exact absurd (.inr (.inl rfl)) hset
  | ctxReset => exact absurd (.inr (.inr rfl)) hset
  | nop | pktClear | errClr | seqReset | seqInc | attClr | attInc => cases h; rfl
  | csumGen => obtain ⟨_, rfl⟩ | ⟨_, rfl⟩ := execCsumGen_next s t h <;> rfl
  | verify => obtain ⟨_, rfl⟩ | ⟨_, rfl⟩ := execVerify_next s t h <;> rfl
  | serialize => obtain ⟨_, rfl⟩ | ⟨_, rfl⟩ := execSerialize_next s t h <;> rfl
  | encode => obtain ⟨_, rfl⟩ | ⟨_, rfl⟩ := execEncode_next s t h <;> rfl
  | deserialize => obtain ⟨_, rfl⟩ | ⟨_, rfl⟩ | ⟨_, _, rfl⟩ := execDeserialize_next s t h <;> rfl
  | decode => obtain ⟨_, rfl⟩ | ⟨_, rfl⟩ | ⟨_, _, rfl⟩ := execDecode_next s t h <;> rfl
  | lcSet S => obtain ⟨_, rfl⟩ | ⟨_, _, ⟨_, rfl⟩ | ⟨_, rfl⟩⟩ := execLcSet_next S s t h <;> rfl
  | winStart => obtain ⟨_, rfl⟩ | ⟨_, rfl⟩ | ⟨_, _, _, rfl⟩ := execWinStart_next s t h <;> rfl
  | winSent => obtain ⟨_, rfl⟩ | ⟨_, rfl⟩ | ⟨_, _, rfl⟩ := execWinSent_next s t h <;> rfl
  | winAck =>
    obtain ⟨_, rfl⟩ | ⟨_, rfl⟩ | ⟨_, _, rfl⟩ := execWinAck_next s t h
    · rfl
    · rfl
    · exact judgeAck_timedPart (verifyStep s)
  | winFail => obtain ⟨_, rfl⟩ | ⟨_, rfl⟩ := execWinFail_next s t h <;> rfl
  | rxClassify => obtain ⟨_, rfl⟩ | ⟨_, rfl⟩ | ⟨_, _, rfl⟩ := execRxClassify_next s t h <;> rfl
  | rxCommit => obtain ⟨_, rfl⟩ | ⟨_, _, rfl⟩ | ⟨_, _, rfl⟩ := execRxCommit_next s t h <;> rfl
  | regRd | regWr | pbRd | pbWr | fbRd | fbWr => cases hc

/-- A host transaction writes the timer only by a command it issues: `TMR_CNT` is read-only (R24). -/
theorem exec_transaction_timedPart (i : Instr) (s t : State) (hi : i.isCommand = false) (h : exec i s = .next t)
    (hset : ¬ SetsTimer (issuedBy i)) : t.timedPart = s.timedPart := by
  cases i with
  | regRd a => obtain ⟨_, rfl⟩ | ⟨_, _, rfl⟩ := execRegRd_next a s t h <;> rfl
  | regWr a d =>
    obtain rfl | ⟨_, _, rfl⟩ | ⟨c, ha, hd, hx⟩ | ⟨r, _, _, _, rfl⟩ := exec_regWr_next a d s t h
    · rfl
    · rfl
    · rw [issuedBy_cmdWrite a d c ha hd] at hset
      exact exec_command_timedPart c s t (isCommand_of_decodeCommand d c hd) hx hset
    · exact hostWriteReg_timedPart r d s
  | pbRd a => obtain ⟨_, rfl⟩ | ⟨_, rfl⟩ := execPbRd_next a s t h <;> rfl
  | pbWr a d => obtain ⟨_, rfl⟩ | ⟨_, rfl⟩ := execPbWr_next a d s t h <;> rfl
  | fbRd a => obtain ⟨_, rfl⟩ | ⟨_, rfl⟩ := execFbRd_next a s t h <;> rfl
  | fbWr a d => obtain ⟨_, rfl⟩ | ⟨_, rfl⟩ := execFbWr_next a d s t h <;> rfl
  | _ => cases hi

/-- The inputs of R227: those that leave an armed timer to the ticks. -/
def Input.leavesTimerToTicks (x : Input) : Prop :=
  x ≠ .reset ∧ ∀ c, x.issued = some c → ¬ SetsTimer c

/-- Along inputs of R227 a step takes its input, and one of the ticks left exactly if that is a tick. -/
theorem step_ticksLeft (s t : State) (x : Input) (rest : List Input) (n : Nat) (hs : s.inputs = x :: rest)
    (hstep : step s = .next t) (hx : x.leavesTimerToTicks) (hn : s.TicksLeft n) :
    t.inputs = rest ∧ t.TicksLeft (n - [x].count .tick) := by
  obtain ⟨hreset, hset⟩ := hx
  obtain ⟨hnil, _⟩ | ⟨w, rest', hw, hr⟩ | ⟨rest', htick, rfl⟩ | ⟨rest', hrst, _⟩ := step_next s t hstep
  · cases hs.symm.trans hnil
  · cases hs.symm.trans hw
    have hkeep : t.timedPart = (beginTransaction rest s).timedPart := by
      obtain ⟨i, hd, hi⟩ | ⟨_, _, rfl⟩ := runTransaction_next w _ t hr
      · exact exec_transaction_timedPart i _ t (not_isCommand_of_decodeTransaction w i hd) hi
          (hset _ (issued_of_decodeTransaction w i hd))
      · rfl
    have hbegin : (beginTransaction rest s).TicksLeft n := hn.congr rfl
    exact ⟨inputs_congr hkeep, hbegin.congr (timerPart_congr hkeep)⟩
  · cases hs.symm.trans htick
    have htake : (takeInput rest s).TicksLeft n := hn.congr rfl
    exact ⟨timerTick_inputs _, htake.timerTick⟩
  · cases hs.symm.trans hrst
    exact absurd rfl hreset

/-! ## Runs -/

theorem run_succ_of_step (M : Host.Core) (k : Nat) (s t : M.State) (h : M.step s = .next t) :
    M.run (k + 1) s = M.run k t := by
  simp only [Host.Core.run, h]

/-- A run of inputs of R227 takes as many of the ticks left as there are ticks among them. -/
theorem run_ticksLeft (xs : List Input) : ∀ (s : State) (n : Nat), s.inputs = xs → s.TicksLeft n →
    (∀ x ∈ xs, x.leavesTimerToTicks) →
    ∃ u, Sys2Proof.core.run xs.length s = .next u ∧ u.TicksLeft (n - xs.count .tick) := by
  induction xs with
  | nil => exact fun s n _ hn _ => ⟨s, rfl, hn⟩
  | cons x xs ih =>
    intro s n hs hn hxs
    obtain ⟨t, ht⟩ := step_completes s
    obtain ⟨hinputs, hleft⟩ := step_ticksLeft s t x xs n hs ht (hxs x List.mem_cons_self) hn
    obtain ⟨u, hrun, hu⟩ := ih t _ hinputs hleft fun y hy => hxs y (List.mem_cons_of_mem x hy)
    have hcount : (x :: xs).count Input.tick = [x].count .tick + xs.count .tick :=
      List.count_append (l₁ := [x])
    refine ⟨u, (run_succ_of_step Sys2Proof.core _ s t ht).trans hrun, ?_⟩
    rwa [hcount, ← Nat.sub_sub]

/-- Settles O59: TMR_ARM leaves the reload value's ticks, of which the run takes those among its inputs. That the value
is not 0 only says that the timer has not expired already. -/
theorem timerExpiresOnExactlyTheReloadTick : Obligations.TimerExpiresOnExactlyTheReloadTick := by
  intro s t xs _ harm hxs
  have harmed : ({ t with inputs := xs } : State).TicksLeft s.tmrReload.toNat :=
    (exec_tmrArm_ticksLeft s t harm).congr rfl
  obtain ⟨u, hrun, hrunning, hexpired, hcnt⟩ := run_ticksLeft xs _ _ rfl harmed fun x hx => by
    obtain ⟨hreset, hnoarm, hnodisarm, hnoctx⟩ := hxs x hx
    refine ⟨hreset, fun c hissued => ?_⟩
    rintro (rfl | rfl | rfl)
    · exact hnoarm hissued
    · exact hnodisarm hissued
    · exact hnoctx hissued
  refine ⟨u, hrun, fun hlt => ?_, fun hge => ?_⟩
  · have hsome : s.tmrReload.toNat - xs.count .tick ≠ 0 := Nat.sub_ne_zero_of_lt hlt
    exact ⟨hrunning.trans (decide_eq_true hsome), hexpired.trans (decide_eq_false hsome), hcnt⟩
  · have hnone : s.tmrReload.toNat - xs.count .tick = 0 := Nat.sub_eq_zero_of_le hge
    exact ⟨hrunning.trans (decide_eq_false (not_not.mpr hnone)), hexpired.trans (decide_eq_true hnone),
      BitVec.eq_of_toNat_eq (hcnt.trans hnone)⟩

end Sys2Proof.Machine
end

section
/-! PROOFS. The control commands and the `CMD` register of 45_host_access.md. First, said once, that a report in place
is sticky: no instruction but ERR_CLR writes it (R241, R262). -/

namespace Sys2Proof.Machine

/-! ## NOP and the writes of CMD -/

/-- Settles O18: OP 0 is an opcode without argument. -/
theorem nopHasNoEffect : Obligations.NopHasNoEffect := by
  refine ⟨decodeInvertsEncode .nop rfl, fun _ => rfl, fun a ha => ?_⟩
  have hop : plainCommand (opField (commandWord a 0x00)) = some .nop := by rw [opField_commandWord]; rfl
  have harg : argField (commandWord a 0x00) ≠ 0 := by rwa [argField_commandWord]
  exact (decodeCommand_of_plain (commandWord a 0x00) .nop hop).trans (if_pos harg)

/-- Settles O9: a legal word runs its command, and an illegal one is R87's report. -/
theorem cmdWriteExecutesCommand : Obligations.CmdWriteExecutesCommand := by
  intro w s
  refine ⟨fun c hd => exec_cmdWrite w c s hd, fun e hd => ?_⟩
  exact (execRegWr_cmd w s).trans (executeWord_error w e s hd)

/-! ## What reaches a report in place -/

/-- The first report is kept: another error changes nothing of it (R262). -/
theorem raiseError_reportPart (code : ErrCode) (s : State) (hs : s.err = true) :
    (raiseError code s).reportPart = s.reportPart := by
  simp [State.reportPart, hs]

theorem judgeAck_reportPart (s : State) : (judgeAck s).reportPart = s.reportPart := by
  obtain ⟨_, _, _, h⟩ | ⟨_, _, _, _, _, h⟩ | h := judgeAck_cases s <;> rw [h] <;> rfl

theorem hostWriteReg_reportPart (r : Reg) (v : Word) (s : State) :
    (hostWriteReg r v s).reportPart = s.reportPart := by
  simp [State.reportPart]

theorem timerTick_reportPart (s : State) : (timerTick s).reportPart = s.reportPart := by
  simp [State.reportPart]

theorem err_congr {s t : State} (h : t.reportPart = s.reportPart) : t.err = s.err := congrArg Prod.fst h

/-- No command but ERR_CLR writes a report in place: the others keep it or report an error on top of it. -/
theorem exec_command_reportPart (c : Instr) (s t : State) (hc : c.isCommand = true) (h : exec c s = .next t)
    (hne : c ≠ .errClr) (hs : s.err = true) : t.reportPart = s.reportPart := by
  have hraise := fun code => raiseError_reportPart code s hs
  cases c with
  | errClr => exact absurd rfl hne
  | nop | pktClear | ctxReset | seqReset | seqInc | attClr | attInc | tmrArm | tmrDisarm => cases h; rfl
  | csumGen => obtain ⟨_, rfl⟩ | ⟨_, rfl⟩ := execCsumGen_next s t h; exacts [hraise _, rfl]
  | verify => obtain ⟨_, rfl⟩ | ⟨_, rfl⟩ := execVerify_next s t h; exacts [hraise _, rfl]
  | serialize => obtain ⟨_, rfl⟩ | ⟨_, rfl⟩ := execSerialize_next s t h; exacts [hraise _, rfl]
  | encode => obtain ⟨_, rfl⟩ | ⟨_, rfl⟩ := execEncode_next s t h; exacts [hraise _, rfl]
  | deserialize =>
    obtain ⟨_, rfl⟩ | ⟨_, rfl⟩ | ⟨_, _, rfl⟩ := execDeserialize_next s t h
    exacts [hraise _, hraise _, rfl]
  | decode =>
    obtain ⟨_, rfl⟩ | ⟨_, rfl⟩ | ⟨_, _, rfl⟩ := execDecode_next s t h
    exacts [hraise _, hraise _, rfl]
  | lcSet S =>
    obtain ⟨_, rfl⟩ | ⟨_, _, ⟨_, rfl⟩ | ⟨_, rfl⟩⟩ := execLcSet_next S s t h
    exacts [hraise _, rfl, hraise _]
  | winStart =>
    obtain ⟨_, rfl⟩ | ⟨_, rfl⟩ | ⟨_, _, _, rfl⟩ := execWinStart_next s t h
    exacts [hraise _, hraise _, rfl]
  | winSent =>
    obtain ⟨_, rfl⟩ | ⟨_, rfl⟩ | ⟨_, _, rfl⟩ := execWinSent_next s t h
    exacts [hraise _, hraise _, rfl]
  | winAck =>
    obtain ⟨_, rfl⟩ | ⟨_, rfl⟩ | ⟨_, _, rfl⟩ := execWinAck_next s t h
    exacts [hraise _, hraise _, judgeAck_reportPart (verifyStep s)]
  | winFail => obtain ⟨_, rfl⟩ | ⟨_, rfl⟩ := execWinFail_next s t h; exacts [hraise _, rfl]
  | rxClassify =>
    obtain ⟨_, rfl⟩ | ⟨_, rfl⟩ | ⟨_, _, rfl⟩ := execRxClassify_next s t h
    exacts [hraise _, hraise _, rfl]
  | rxCommit =>
    obtain ⟨_, rfl⟩ | ⟨_, _, rfl⟩ | ⟨_, _, rfl⟩ := execRxCommit_next s t h
    exacts [hraise _, hraise _, rfl]
  | regRd | regWr | pbRd | pbWr | fbRd | fbWr => cases hc

/-- A host transaction writes a report in place only by an ERR_CLR it issues: `STATUS` and `ERRCODE` are read-only
(R24). -/
theorem exec_transaction_reportPart (i : Instr) (s t : State) (hi : i.isCommand = false) (h : exec i s = .next t)
    (hne : issuedBy i ≠ .errClr) (hs : s.err = true) : t.reportPart = s.reportPart := by
  have hraise := fun code => raiseError_reportPart code s hs
  cases i with
  | regRd a => obtain ⟨_, rfl⟩ | ⟨_, _, rfl⟩ := execRegRd_next a s t h; exacts [hraise .badReg, rfl]
  | regWr a d =>
    obtain rfl | ⟨_, _, rfl⟩ | ⟨c, ha, hd, hx⟩ | ⟨r, _, _, _, rfl⟩ := exec_regWr_next a d s t h
    · exact hraise .badReg
    · exact hraise .illegalCmd
    · rw [issuedBy_cmdWrite a d c ha hd] at hne
      exact exec_command_reportPart c s t (isCommand_of_decodeCommand d c hd) hx hne hs
    · exact hostWriteReg_reportPart r d s
  | pbRd a => obtain ⟨_, rfl⟩ | ⟨_, rfl⟩ := execPbRd_next a s t h; exacts [hraise .badAddr, rfl]
  | pbWr a d => obtain ⟨_, rfl⟩ | ⟨_, rfl⟩ := execPbWr_next a d s t h; exacts [hraise .badAddr, rfl]
  | fbRd a => obtain ⟨_, rfl⟩ | ⟨_, rfl⟩ := execFbRd_next a s t h; exacts [hraise .badAddr, rfl]
  | fbWr a d => obtain ⟨_, rfl⟩ | ⟨_, rfl⟩ := execFbWr_next a d s t h; exacts [hraise .badAddr, rfl]
  | _ => cases hi

/-- A step on anything but a reset writes a report in place only by an ERR_CLR that its input issues (R241). -/
theorem step_reportPart (s t : State) (x : Input) (rest : List Input) (hs : s.inputs = x :: rest)
    (hstep : step s = .next t) (hreset : x ≠ .reset) (hclr : x.issued ≠ some .errClr) (herr : s.err = true) :
    t.reportPart = s.reportPart := by
  obtain ⟨hnil, _⟩ | ⟨w, rest', hw, hr⟩ | ⟨rest', _, rfl⟩ | ⟨rest', hrst, _⟩ := step_next s t hstep
  · cases hs.symm.trans hnil
  · cases hs.symm.trans hw
    obtain ⟨i, hd, hx⟩ | ⟨_, _, rfl⟩ := runTransaction_next w _ t hr
    · rw [issued_of_decodeTransaction w i hd] at hclr
      exact exec_transaction_reportPart i (beginTransaction rest s) t (not_isCommand_of_decodeTransaction w i hd) hx
        (fun hi => hclr (congrArg some hi)) herr
    · exact raiseError_reportPart .illegalCmd s herr
  · exact timerTick_reportPart (takeInput rest' s)
  · cases hs.symm.trans hrst
    exact absurd rfl hreset

/-- Settles O17: a step that is neither a reset nor an ERR_CLR leaves a report in place, so one that clears it is one
of the two. -/
theorem errClrClearsTheReport : Obligations.ErrClrClearsTheReport := by
  refine ⟨decodeInvertsEncode .errClr rfl, fun _ => rfl, fun s t x rest hs hstep hset hcleared => ?_⟩
  by_contra hnone
  obtain ⟨hreset, hclr⟩ := not_or.mp hnone
  have hkeep : t.err = s.err := err_congr (step_reportPart s t x rest hs hstep hreset hclr hset)
  exact Bool.false_ne_true (hcleared.symm.trans (hkeep.trans hset))

end Sys2Proof.Machine
end

section
/-! PROOFS. The statements of 60_exceptions.md. What an instruction does is read as a function of the report it finds:
its checks read no report, so for every report it refuses with one code, clears the report, or does one and the same
work and leaves the report alone (R262, R263). -/

namespace Sys2Proof.Machine

/-! ## A state under another report -/

/-- The state with its report (R31) replaced. -/
def State.withReport (s : State) (r : Bool × ErrCode) : State := { s with err := r.1, errcode := r.2 }

@[simp] theorem withReport_reportPart (s : State) : s.withReport s.reportPart = s := rfl

/-- The judgement of a frame reads no report (R178). -/
theorem judgeAck_withReport (s : State) (r : Bool × ErrCode) :
    judgeAck (s.withReport r) = (judgeAck s).withReport r := by
  unfold judgeAck
  rw [apply_ite (State.withReport · r), apply_ite (State.withReport · r)]
  rfl

/-- No register write reads the report, and none reaches it (R24). -/
theorem hostWriteReg_withReport (reg : Reg) (v : Word) (s : State) (r : Bool × ErrCode) :
    hostWriteReg reg v (s.withReport r) = (hostWriteReg reg v s).withReport r := by
  cases reg <;> rfl

/-! ## What an instruction does under every report -/

/-- What the instruction that is issued as `c` does from `s` under every report, `f` its outcome and `v` the data
returned with an error: it refuses, it is an ERR_CLR, or it works past the report. The data a read returns may depend
on the report, since `STATUS` and `ERRCODE` show it. -/
inductive ReportUse (s : State) (c : Instr) (v : Option Word)
    (f : Bool × ErrCode → Host.Outcome State Fault Refusal) : Prop
  | refuse (code : ErrCode) (hcode : code ≠ .none)
      (h : ∀ r, f r = .next { raiseError code (s.withReport r) with reply := v })
  | clear (hc : c = .errClr) (h : ∀ r, f r = .next (s.withReport (false, .none)))
  | work (u : State) (h : ∀ r, ∃ w, f r = .next { u.withReport r with reply := w })

section
variable {s : State} {c : Instr} {v : Option Word} {f g : Bool × ErrCode → Host.Outcome State Fault Refusal}

/-- Work that returns no data of its own, and is the same under every report. -/
theorem ReportUse.act {t : Bool × ErrCode → State} (h : ∀ r, t r = (t s.reportPart).withReport r) :
    ReportUse s c v (fun r => .next (t r)) :=
  .work (t s.reportPart) fun r => ⟨(t s.reportPart).reply, congrArg Host.Outcome.next (h r)⟩

/-- A check that reads no report chooses one branch for every report. -/
theorem ReportUse.ite (p : Prop) [Decidable p] (hf : ReportUse s c v f) (hg : ReportUse s c v g) :
    ReportUse s c v (fun r => if p then f r else g r) := by
  by_cases hp : p
  · simpa only [if_pos hp] using hf
  · simpa only [if_neg hp] using hg

theorem ReportUse.refuseWith (code : ErrCode) (hcode : code ≠ .none) :
    ReportUse s c s.reply (fun r => refuseWith code (s.withReport r)) :=
  .refuse code hcode fun _ => rfl

theorem ReportUse.refuseRead (code : ErrCode) (hcode : code ≠ .none) :
    ReportUse s c (some 0) (fun r => refuseRead code (s.withReport r)) :=
  .refuse code hcode fun _ => rfl

/-- A read answers and changes nothing. -/
theorem ReportUse.answer (w : Bool × ErrCode → Word) : ReportUse s c v (fun r => answer (w r) (s.withReport r)) :=
  .work s fun r => ⟨some (w r), rfl⟩

/-- An operand check: the error it reports, or what follows it. -/
theorem ReportUse.check (p : Prop) [Decidable p] (code : ErrCode) (hcode : code ≠ .none)
    (hf : ReportUse s c s.reply f) :
    ReportUse s c s.reply (fun r => if p then Machine.refuseWith code (s.withReport r) else f r) :=
  .ite p (.refuseWith code hcode) hf

end

/-- No check of a command reads the report, and past its checks none but ERR_CLR does. -/
theorem exec_command_reportUse (c : Instr) (s : State) (hc : c.isCommand = true) :
    ReportUse s c s.reply (fun r => exec c (s.withReport r)) := by
  cases c with
  | errClr => exact .clear rfl fun _ => rfl
  | nop | pktClear | ctxReset | seqReset | seqInc | attClr | attInc | tmrArm | tmrDisarm =>
    exact .act fun _ => rfl
  | csumGen | verify | serialize | encode =>
    exact .check s.payloadTooLong .oversize nofun (.act fun _ => rfl)
  | deserialize | decode =>
    exact .check (s.flen.toNat < 4) .framing nofun <| .check (s.params.P + 4 < s.flen.toNat) .oversize nofun <|
      .act fun _ => rfl
  | lcSet S =>
    cases hS : lifecycleOfCode S with
    | none =>
      simp only [exec, execLcSet, hS]
      exact .refuseWith .illegalCmd nofun
    | some target =>
      simp only [exec, execLcSet, hS]
      exact .ite (legalTransition s.lcState target) (.act fun _ => rfl)
        (.refuseWith .badTransition nofun)
  | winStart =>
    exact .check (s.lcState ≠ .established) .notEstablished nofun <|
      .check (s.winN.toNat < 1 ∨ 256 < s.winN.toNat) .badCount nofun <| .act fun _ => rfl
  | winSent =>
    exact .check (¬ s.winActive) .winInactive nofun <|
      .check (s.winTop < s.winCursor.toNat) .noSendSlot nofun <| .act fun _ => rfl
  | winAck =>
    exact .check (¬ s.winActive) .winInactive nofun <| .check s.payloadTooLong .oversize nofun <|
      .act fun r => judgeAck_withReport (verifyStep s) r
  | winFail => exact .check (¬ s.winActive) .winInactive nofun (.act fun _ => rfl)
  | rxClassify =>
    exact .check (s.lcState ≠ .established) .notEstablished nofun <| .check s.payloadTooLong .oversize nofun <|
      .act fun _ => rfl
  | rxCommit =>
    exact .check (¬ s.rxPend) .noPending nofun <|
      .check (s.rxAction = .fin ∧ s.lcState ≠ .established) .badTransition nofun <| .act fun _ => rfl
  | regRd | regWr | pbRd | pbWr | fbRd | fbWr => cases hc

/-- A write of `CMD` uses the report as the command does whose word it carries (R244). -/
theorem exec_cmdWrite_reportUse (d : Word) (s : State) :
    ReportUse s (issuedBy (.regWr 0x0001 d)) s.reply (fun r => exec (.regWr 0x0001 d) (s.withReport r)) := by
  cases hd : decodeCommand d with
  | error e =>
    exact .refuse .illegalCmd nofun fun r => (cmdWriteExecutesCommand d (s.withReport r)).2 e hd
  | ok c =>
    simp only [exec_cmdWrite d c _ hd, issuedBy_cmdWrite 0x0001 d c rfl hd]
    exact exec_command_reportUse c s (isCommand_of_decodeCommand d c hd)

/-- A write of any other register is refused, or stores (R246). -/
theorem exec_storeReg_reportUse (a d : BitVec 16) (s : State) (c : Instr) (ha : a ≠ 0x0001) :
    ReportUse s c s.reply (fun r => exec (.regWr a d) (s.withReport r)) := by
  cases hr : regOfAddress a with
  | none => exact .refuse .badReg nofun fun r => exec_regWr_of_none (s.withReport r) a d hr
  | some reg =>
    have hcmd : reg ≠ .cmd := fun h => ha (address_of_cmd a (h ▸ hr))
    simp only [exec, execRegWr, hr, if_neg hcmd]
    exact .check (regAccess reg = .readOnly) .badReg nofun <| .check (reg = .winN ∧ s.winActive) .badReg nofun <|
      .act fun r => hostWriteReg_withReport reg d s r

/-! ## What a refused instruction returns -/

/-- What is on the bus after an instruction that was refused: a read returns 0 (R61), anything else nothing new. -/
def refusedReply (i : Instr) (s : State) : Option Word :=
  match i with
  | .regRd _ | .pbRd _ | .fbRd _ => some 0
  | _ => s.reply

theorem refusedReply_of_read (i : Instr) (s : State) (h : ∃ a, i = .regRd a ∨ i = .pbRd a ∨ i = .fbRd a) :
    refusedReply i s = some 0 := by
  obtain ⟨a, rfl | rfl | rfl⟩ := h <;> rfl

theorem refusedReply_of_not_read (i : Instr) (s : State) (h : ∀ a, i ≠ .regRd a ∧ i ≠ .pbRd a ∧ i ≠ .fbRd a) :
    refusedReply i s = s.reply := by
  cases i with
  | regRd a => exact absurd rfl (h a).1
  | pbRd a => exact absurd rfl (h a).2.1
  | fbRd a => exact absurd rfl (h a).2.2
  | _ => rfl

theorem refusedReply_of_isCommand (i : Instr) (s : State) (hi : i.isCommand = true) :
    refusedReply i s = s.reply := by
  cases i with
  | regRd | pbRd | fbRd => cases hi
  | _ => rfl

theorem issuedBy_of_isCommand (i : Instr) (hi : i.isCommand = true) : issuedBy i = i := by
  cases i with
  | regWr => cases hi
  | _ => rfl

/-- Every instruction refuses under every report, or under none. -/
theorem exec_reportUse (i : Instr) (s : State) :
    ReportUse s (issuedBy i) (refusedReply i s) (fun r => exec i (s.withReport r)) := by
  cases hi : i.isCommand with
  | true =>
    rw [issuedBy_of_isCommand i hi, refusedReply_of_isCommand i s hi]
    exact exec_command_reportUse i s hi
  | false =>
    cases i with
    | regRd a =>
      cases hr : regOfAddress a with
      | none => exact .refuse .badReg nofun fun r => exec_regRd_of_none (s.withReport r) a hr
      | some reg => exact .work s fun r => ⟨_, exec_regRd_of_reg (s.withReport r) reg a hr⟩
    | regWr a d =>
      by_cases ha : a = 0x0001
      · subst ha; exact exec_cmdWrite_reportUse d s
      · exact exec_storeReg_reportUse a d s _ ha
    | pbRd a => exact .ite (s.params.P ≤ a.toNat) (.refuseRead .badAddr nofun) (.answer _)
    | pbWr a d => exact .check (s.params.P ≤ a.toNat) .badAddr nofun (.act fun _ => rfl)
    | fbRd a => exact .ite (s.params.P + 4 ≤ a.toNat) (.refuseRead .badAddr nofun) (.answer _)
    | fbWr a d => exact .check (s.params.P + 4 ≤ a.toNat) .badAddr nofun (.act fun _ => rfl)
    | _ => cases hi

/-! ## The statements -/

/-- Settles O10: each kind of input is answered with a next state, and with none the block waits. -/
theorem everyStepCompletes : Obligations.EveryStepCompletes := step_completes

/-- Settles O16: what an instruction does under a clear report says which of the three uses of the report it makes,
and so what it does under the report that stands. -/
theorem errorReportsArePreciseAndSticky : Obligations.ErrorReportsArePreciseAndSticky := by
  refine ⟨fun _ _ => rfl, fun i s u hu => ?_⟩
  have hclear : exec i (s.withReport (false, .none)) = .next u := hu
  cases exec_reportUse i s with
  | refuse code hcode h =>
    cases (h _).symm.trans hclear
    have hstands := h s.reportPart
    simp only [withReport_reportPart] at hstands
    refine ⟨fun _ => ⟨hcode, _, hstands, rfl, ?_, ?_⟩, nofun⟩
    · exact refusedReply_of_read i s
    · exact refusedReply_of_not_read i s
  | clear hc h =>
    cases (h _).symm.trans hclear
    exact ⟨nofun, fun _ hne => absurd hc hne⟩
  | work body h =>
    obtain ⟨_, hbody⟩ := h (false, .none)
    cases hbody.symm.trans hclear
    obtain ⟨_, hstands⟩ := h s.reportPart
    simp only [withReport_reportPart] at hstands
    exact ⟨nofun, fun _ _ => ⟨_, hstands, rfl⟩⟩

end Sys2Proof.Machine
end

section
/-! PROOFS. The statements of 70_reset_and_hazards.md. R291's table is said once, as a function of the parameters,
and compared with what a register reads; the bits of `STATUS` are compared as its list of bits. -/

namespace Sys2Proof.Machine

/-! ## The reset values -/

/-- The reset value of each register (R291). -/
def resetValue (p : Config.Params) : Reg → Word
  | .paramP => BitVec.ofNat 16 p.P
  | .status => 0x0400
  | .limConnect | .limClose | .limData => 10
  | .rxAckType => 0xFF
  | .winWs => 1
  | .tmrReload => p.T0
  | .cmd | .errcode | .ien => 0
  | .pktType | .pktSeq | .pktCsum | .pktPlen | .csumCalc | .flen => 0
  | .lcState | .expSeq | .attCnt | .rxAction | .rxAckSeq => 0
  | .winN | .winBase | .winTop | .winCursor | .winFailcnt | .winAnchor | .winNextSeq | .tmrCnt => 0

/-- With every source disabled the interrupt line is down (R29, R32). -/
theorem irq_of_ien_eq_zero (s : State) (h : s.ien = 0) : s.irq = false := by
  simp [State.irq, h]

/-- After a reset only TYPE_VALID stands, since `PKT_TYPE` is 0 (R29, R291). -/
theorem statusBits_hardwareReset (s : State) :
    (hardwareReset s).statusBits = List.replicate 10 false ++ [true, false] := by
  have hirq : (hardwareReset s).irq = false := irq_of_ien_eq_zero _ rfl
  rw [State.statusBits, hirq]
  rfl

theorem statusWord_hardwareReset (s : State) : (hardwareReset s).statusWord = 0x0400 := by
  rw [statusWord_eq, statusBits_hardwareReset]
  decide

/-- No register keeps anything from before a reset but the two parameters (R291). -/
theorem readReg_hardwareReset (s : State) (r : Reg) : readReg (hardwareReset s) r = resetValue s.params r := by
  cases r with
  | status => exact statusWord_hardwareReset s
  | _ => rfl

/-- A reset's step takes it off the queue and resets (R290). -/
theorem step_of_reset (s : State) (rest : List Input) (hs : s.inputs = .reset :: rest) :
    step s = .next (hardwareReset (takeInput rest s)) := by
  rw [step, hs]

/-! ## The statements -/

/-- Settles O12: the registers read as R291's table, and the bits of `STATUS` are the entries of its list. -/
theorem resetValues : Obligations.ResetValues := by
  intro s rest hs
  have reads : ∀ r, readReg (hardwareReset (takeInput rest s)) r = resetValue s.params r :=
    readReg_hardwareReset (takeInput rest s)
  have hbits := statusBits_hardwareReset (takeInput rest s)
  simp only [State.statusBits, List.replicate, List.cons_append, List.nil_append, List.cons.injEq, and_true] at hbits
  obtain ⟨hvok, herr, hrun, hexp, hactive, hdone, hfailed, hcanSend, hexh, hpend, htype, hirq⟩ := hbits
  exact ⟨_, step_of_reset s rest hs, reads .paramP, reads .cmd,
    hvok, herr, hrun, hexp, hactive, hdone, hfailed, hcanSend, hexh, hpend, htype, hirq,
    reads .status, reads .errcode, reads .ien, reads .pktType, reads .pktSeq, reads .pktCsum, reads .pktPlen,
    reads .csumCalc, reads .flen, reads .lcState, rfl, reads .expSeq, reads .attCnt,
    reads .limConnect, reads .limClose, reads .limData, reads .rxAction, reads .rxAckType, reads .rxAckSeq,
    reads .winN, reads .winBase, reads .winTop, reads .winCursor, reads .winWs, reads .winFailcnt,
    reads .winAnchor, reads .winNextSeq, reads .tmrReload, reads .tmrCnt, rfl, rfl⟩

/-- Settles O13: a reset leaves every clause true and VOK 0, whatever the legal parameters, those of `State.reset`
among them. -/
theorem invariantHoldsAtReset : Obligations.InvariantHoldsAtReset := by
  have hinit : ∀ p : Config.Params, p.legal → (State.init p).Inv ∧ (State.init p).VokSound := fun p hp =>
    ⟨init_inv p hp, vokSound_of_vok_eq_false rfl⟩
  obtain ⟨hinv, hvok⟩ := hinit Config.resetParams (by decide)
  exact ⟨hinv, hvok, hinit⟩

end Sys2Proof.Machine
end
